-- ==== Sys2Proof/Word.lean ====
section
/-! DEFINITION. The widths the spec gives its values. A FixedSample is a 16-bit pattern whose raw value is
`BitVec.toInt` (00_scope.md R15, R16); bit 0 is the least significant bit (R14). -/

namespace Sys2Proof

/-- A FixedSample: 16 bits, raw value -32768 to 32767 (R16, R81). Two's complement is the spec's own reading (log 20). -/
abbrev Sample := BitVec 16

/-- One byte of the telemetry stream (R60). -/
abbrev Byte := BitVec 8

/-- A stored mean-square-error value: 18 bits, unsigned (R83). -/
abbrev ErrVal := BitVec 18

/-- The accumulator: `ACC_W` = 40 bits, signed (R34). -/
abbrev Acc := BitVec 40

/-- The generator word: 32 bits (R89). -/
abbrev GenWord := BitVec 32

end Sys2Proof
end

