-- ==== Sys2Proof/Syntax.lean ====
section
/-! DEFINITION. The operations of the engine (one constructor per row of spec/opcode_table.json), the codes that
carry them, and the lines of a schedule, which is what a program of this hardware is (30_encoding.md R95 to R108). -/

namespace Sys2Proof

/-- The 23 coded operations. No format has an operand field (R95, R101). -/
inductive Instr where
  -- P: primitives of the arithmetic unit (R97)
  | aclr | macc | ascl | qmul | sadd | ssub | sabs | umin | amean
  -- S: operations of the sequencer (R98)
  | wait | start | gen | plant | adapt | mse | dist | nextf | txc | txe
  -- E: events (R99)
  | evnone | evmu | evpow | evboth
  deriving DecidableEq, Repr

/-- A code with the thing that carries it: the function select `fn[3:0]`, the phase register `ph[3:0]`, or the two event
ports `ev[1:0]` (R95). The carrier tells the format; the code alone does not (R102). -/
inductive Code where
  | p (fn : BitVec 4)
  | s (ph : BitVec 4)
  | e (ev : BitVec 2)
  deriving DecidableEq, Repr

/-! The S codes by name (R41, R98). -/

abbrev phWait : BitVec 4 := 0#4
abbrev phStart : BitVec 4 := 1#4
abbrev phGen : BitVec 4 := 2#4
abbrev phPlant : BitVec 4 := 3#4
abbrev phAdapt : BitVec 4 := 4#4
abbrev phMse : BitVec 4 := 5#4
abbrev phDist : BitVec 4 := 6#4
abbrev phNextf : BitVec 4 := 7#4
abbrev phTxc : BitVec 4 := 8#4
abbrev phTxe : BitVec 4 := 9#4

/-- What the outside gives one clocked step: the four input ports of R75, and whether the sequencer is scheduled in it
(R20: the scheduling of agents is an input of the step relation; log 17). -/
structure StepInput where
  /-- port `rst` -/
  rst : Bool
  /-- port `ev_mu` -/
  evMu : Bool
  /-- port `ev_pow` -/
  evPow : Bool
  /-- port `tx_ready` -/
  txReady : Bool
  /-- the sequencer is scheduled; it also takes its step, whatever this bit is, where a byte moves (R76) -/
  seq : Bool
  deriving DecidableEq, Repr, Inhabited

/-- One line of a schedule (R106), and two lines of the model's own: `prim` drives the arithmetic unit alone with the
operands its caller supplies (R96; log 8), `clock` gives the ports of one clocked step (R75 to R77; log 17). -/
inductive Line where
  /-- `RST`: the reset step -/
  | rst
  /-- `SEQ <phase>`: the sequencer's operation, the transport being ready -/
  | seq (phase : BitVec 4)
  /-- `EVMU`, `EVPOW`, `EVBOTH` (and `EVNONE`): one event step -/
  | ev (code : BitVec 2)
  /-- the model's own: one primitive with its operands -/
  | prim (fn : BitVec 4) (a b : Sample)
  /-- the model's own: one clocked step -/
  | clock (inp : StepInput)
  deriving DecidableEq, Repr

end Sys2Proof
end

