-- ==== Sys2Proof/WellFormed.lean ====
section
/-! DEFINITION. Which codes and schedule lines are well-formed whatever the state is. Every term of `Instr` is: no
operation has an operand (30_encoding.md R101). What depends on the state (a `SEQ` line must name the phase `PH` holds,
R106) is checked where the line is run, Machine/Schedule.lean. -/

namespace Sys2Proof

/-- P codes 9 to 15 and S codes 10 to 15 are reserved; all four E codes are legal (R97 to R99, R104). -/
def Code.wf : Code → Bool
  | .p fn => decide (fn.toNat ≤ 8)
  | .s ph => decide (ph.toNat ≤ 9)
  | .e _ => true

/-- A schedule line names only codes that are not reserved (R104, R106). -/
def Line.wf : Line → Bool
  | .rst => true
  | .seq phase => (Code.s phase).wf
  | .ev code => (Code.e code).wf
  | .prim fn _ _ => (Code.p fn).wf
  | .clock _ => true

end Sys2Proof
end

