-- ==== Sys2Proof/Decode.lean ====
section
/-! DEFINITION. The decoder from a code and its carrier to an operation, total, refusing reserved codes by name, and the
encoder (30_encoding.md R95 to R104). -/

namespace Sys2Proof

/-- Why a code decodes to nothing. -/
inductive DecodeError where
  /-- P code 9 to 15 (R104, U4) -/
  | reservedPrimitive (fn : BitVec 4)
  /-- S code 10 to 15 (R104, U3) -/
  | reservedPhase (ph : BitVec 4)
  deriving DecidableEq, Repr

/-- The P codes of R97. -/
def decodePrim (fn : BitVec 4) : Except DecodeError Instr :=
  match fn.toNat with
  | 0 => .ok .aclr
  | 1 => .ok .macc
  | 2 => .ok .ascl
  | 3 => .ok .qmul
  | 4 => .ok .sadd
  | 5 => .ok .ssub
  | 6 => .ok .sabs
  | 7 => .ok .umin
  | 8 => .ok .amean
  | _ => .error (.reservedPrimitive fn)

/-- The S codes of R98. -/
def decodePhase (ph : BitVec 4) : Except DecodeError Instr :=
  match ph.toNat with
  | 0 => .ok .wait
  | 1 => .ok .start
  | 2 => .ok .gen
  | 3 => .ok .plant
  | 4 => .ok .adapt
  | 5 => .ok .mse
  | 6 => .ok .dist
  | 7 => .ok .nextf
  | 8 => .ok .txc
  | 9 => .ok .txe
  | _ => .error (.reservedPhase ph)

/-- The E codes of R99: bit 0 is the `mu` channel, bit 1 the `power` channel, each decoded on its own. -/
def decodeEvent (ev : BitVec 2) : Instr :=
  match ev.getLsbD 1, ev.getLsbD 0 with
  | false, false => .evnone
  | false, true => .evmu
  | true, false => .evpow
  | true, true => .evboth

/-- The decoder: the carrier chooses the format, the code the operation (R95, R102). -/
def decode : Code → Except DecodeError Instr
  | .p fn => decodePrim fn
  | .s ph => decodePhase ph
  | .e ev => .ok (decodeEvent ev)

/-- The encoder: the tables of R97 to R99. -/
def encode : Instr → Code
  | .aclr => .p 0#4
  | .macc => .p 1#4
  | .ascl => .p 2#4
  | .qmul => .p 3#4
  | .sadd => .p 4#4
  | .ssub => .p 5#4
  | .sabs => .p 6#4
  | .umin => .p 7#4
  | .amean => .p 8#4
  | .wait => .s 0#4
  | .start => .s 1#4
  | .gen => .s 2#4
  | .plant => .s 3#4
  | .adapt => .s 4#4
  | .mse => .s 5#4
  | .dist => .s 6#4
  | .nextf => .s 7#4
  | .txc => .s 8#4
  | .txe => .s 9#4
  | .evnone => .e 0#2
  | .evmu => .e 1#2
  | .evpow => .e 2#2
  | .evboth => .e 3#2

/-- The code that a row of `nbits` bits with the bits `w` stands for. A table row does not say what carries its code, and
the carrier is what tells the formats apart (R102): a row of at most 2 bits is read as the event ports, every other as
the phase register, the one carrier a step fetches its operation from. DESIGN CHOICE (log 11). -/
def tableCode (nbits w : Nat) : Option Code :=
  if nbits ≤ 2 then
    if w < 4 then some (.e (BitVec.ofNat 2 w)) else none
  else
    if w < 16 then some (.s (BitVec.ofNat 4 w)) else none

/-- The instruction the decoder reads from a table row's bits. -/
def decodeTableWord (nbits w : Nat) : Option Instr :=
  match tableCode nbits w with
  | none => none
  | some c =>
    match decode c with
    | .ok i => some i
    | .error _ => none

end Sys2Proof
end

