-- ==== Sys2Proof/Config.lean ====
section
/-! DEFINITION. The parameters of one built engine (00_scope.md R10 to R13) and the free values: constants without a
body, which no proof can look into. -/

namespace Sys2Proof

/-- The parameters of R11 and R12 that a configuration carries. They are constants of the engine: no step changes them.
`taps`, `block` are the symbols `N`, `B`; for the hardware they are 30 and 100 (R11). Element ranges (-32768 to 32767) and
`ERRTRACE_EN` being 0 or 1 hold by type (log 22). -/
structure Config where
  /-- `N` -/
  taps : Nat
  /-- `B` -/
  block : Nat
  /-- `NUMFRAMES` -/
  numFrames : Nat
  /-- `H_COEF` -/
  hCoef : List Sample
  /-- `W_INIT` -/
  wInit : List Sample
  /-- `MU_MIN` -/
  muMin : Nat
  /-- `POWER_MIN` -/
  powerMin : Nat
  /-- `DIST_THRESHOLD` -/
  distThreshold : Nat
  /-- `ERRTRACE_EN` -/
  errTraceEn : Bool
  /-- `PRNG_SEED` -/
  prngSeed : GenWord
  /-- `ACC_W`, whose one legal value is 40 -/
  accW : Nat
  /-- `POSTSHIFT`, whose one legal value is 0 -/
  postShift : Nat
  /-- a reduced-size instance for testing (R10, R242), not the hardware (log 13) -/
  testInstance : Bool
  deriving DecidableEq, Repr

/-- `L = N + B - 1`, the length of a delay line (R11). -/
def Config.lineLen (c : Config) : Nat := c.taps + c.block - 1

/-- `COEF_FRAME_LEN` (R11). -/
def Config.coefFrameLen (c : Config) : Nat := 4 * c.taps

/-- `ERR_FRAME_LEN` (R11). -/
def Config.errFrameLen (c : Config) : Nat := 2 * c.numFrames

/-- `MSE_CEIL` (R11). -/
abbrev mseCeil : Nat := 262143

/-- `PARAM_MAX` (R11). -/
abbrev paramMax : Nat := 28000

/-- `STAIR_KNEE` (R11). -/
abbrev stairKnee : Nat := 10000

/-- `STAIR_MUL` (R11). -/
abbrev stairMul : Nat := 10

/-- `STAIR_ADD` (R11). -/
abbrev stairAdd : Nat := 3000

/-- The default plant coefficient vector (R13). -/
def Config.defaultPlant : List Sample :=
  [5, 10, 20, 40, 80, 160, 320, 640, 1320, 2640, 5280, 10560, 21120, 21120, 21120,
   21120, 21120, 21120, 10560, 5280, 2640, 1320, 640, 320, 160, 80, 40, 20, 10, 5]

/-- The default test parameters (R12, R13). DESIGN CHOICE as the parameters of `State.reset`: the spec says these defaults
are not the hardware's values (log 2). -/
def Config.testDefault : Config where
  taps := 30
  block := 100
  numFrames := 100
  hCoef := Config.defaultPlant
  wInit := List.replicate 30 0
  muMin := 5000
  powerMin := 5000
  distThreshold := 4
  errTraceEn := true
  prngSeed := 0x12345678#32
  accW := 40
  postShift := 0
  testInstance := false

/-! Free values. Each is drawn at the model's counter `tick`; nothing constrains it but its type. -/

/-- `MU_RUN` after reset: unspecified, an integer 0 to 28000 (R24, R49, R50; log 3). -/
opaque Config.unspecMuRun : Nat → Fin 28001

/-- `POWER_RUN` after reset: unspecified, an integer 0 to 28000 (R25, R49, R50; log 3). -/
opaque Config.unspecPowerRun : Nat → Fin 28001

/-- Element `n` of `XB` after reset: unspecified (R30, R50; log 3). -/
opaque Config.unspecXB : Nat → Nat → Sample

/-- Element `n` of `DB` after reset: unspecified (R31, R50; log 3). -/
opaque Config.unspecDB : Nat → Nat → Sample

/-- Element `n` of `YB` after reset: unspecified (R32, R50; log 3). -/
opaque Config.unspecYB : Nat → Nat → Sample

/-- Element `n` of `EB` after reset: unspecified (R33, R50; log 3). -/
opaque Config.unspecEB : Nat → Nat → Sample

/-- Element `f` of `ET` after reset: unspecified (R36, R50; log 3). -/
opaque Config.unspecET : Nat → Nat → ErrVal

/-- The result of `UMIN` when an operand lies outside 0 to 32767: R120 states none (log 14). -/
opaque Config.uminOutside : Nat → Sample → Sample → Sample

/-- The result of `AMEAN` when `ACC` is negative: R121 states none (log 15). -/
opaque Config.ameanNegative : Nat → Acc → ErrVal

/-- The port `tx_data` while `tx_valid = 0`: any value (R75, U2; log 16). -/
opaque Config.idleTxData : Nat → Byte

/-- The port `tx_last` while `tx_valid = 0`: any value (R75, U2; log 16). -/
opaque Config.idleTxLast : Nat → Bool

/-- What the outside does in a step for which no schedule line is listed: anything R258 lets it (log 6). -/
opaque Config.envInput : Nat → StepInput

end Sys2Proof
end

