-- ==== Sys2Proof/Machine/State.lean ====
section
/-! DEFINITION. The state of the engine (10_state.md R20 to R42), with the model's own fields after it, the reasons a step
can stop, and the state after reset (R49). -/

namespace Sys2Proof.Machine

/-- The state. The first group is the spec's, the second the model's own (INVENTORY.md, State). -/
structure State where
  /-- `MU` (R21) -/
  mu : Sample
  /-- `POWER` (R22) -/
  power : Sample
  /-- `RESTART` (R23) -/
  restart : Bool
  /-- `MU_RUN` (R24) -/
  muRun : Sample
  /-- `POWER_RUN` (R25) -/
  powerRun : Sample
  /-- `W[0..N-1]` (R27) -/
  w : List Sample
  /-- `DLP[0..L-1]`, newest first (R28) -/
  dlp : List Sample
  /-- `DLA[0..L-1]`, newest first (R29) -/
  dla : List Sample
  /-- `XB[0..B-1]` (R30) -/
  xb : List Sample
  /-- `DB[0..B-1]` (R31) -/
  db : List Sample
  /-- `YB[0..B-1]` (R32) -/
  yb : List Sample
  /-- `EB[0..B-1]` (R33) -/
  eb : List Sample
  /-- `ACC` (R34) -/
  acc : Acc
  /-- `PRNG` (R35) -/
  prng : GenWord
  /-- `ET[0..NUMFRAMES-1]` (R36) -/
  et : List ErrVal
  /-- `DIST` (R37) -/
  dist : Sample
  /-- `CONV` (R38) -/
  conv : Bool
  /-- `FRAME` (R39) -/
  frame : BitVec 14
  /-- `TXIDX` (R40) -/
  txidx : BitVec 15
  /-- `PH` (R41) -/
  ph : BitVec 4
  /-- `TXS`, the pairs (byte, last) emitted since the last reset, oldest first (R42) -/
  txs : List (Byte × Bool)
  /-- model: the parameters of R11 and R12; no step changes them (log 1) -/
  cfg : Config
  /-- model: the bytes handed to the transport since power-on; a reset step keeps them (R267; log 21) -/
  wire : List Byte
  /-- model: the level of the port `tx_ready` in the step being taken (R75; log 9) -/
  txReady : Bool
  /-- model: operand `a` of the arithmetic unit (R96; log 8) -/
  opA : Sample
  /-- model: operand `b` of the arithmetic unit (R96; log 8) -/
  opB : Sample
  /-- model: the 16-bit result of the arithmetic unit (R125; log 8) -/
  resS : Sample
  /-- model: the 18-bit result of the arithmetic unit (R125; log 8) -/
  resM : ErrVal
  /-- model: the agent steps still to come, next first (R106; log 5) -/
  sched : List Line
  /-- model: the counter from which free values are drawn (log 7) -/
  tick : Nat
  deriving DecidableEq, Repr

/-- `H[0..N-1]`, the plant's coefficients: a constant, equal to `H_COEF` at all times (R26; log 4). -/
def State.h (s : State) : List Sample := s.cfg.hCoef

/-- Why the model stops with a fault. The engine itself raises none (R240). -/
inductive Fault where
  /-- `PH` holds a reserved code, 10 to 15: no operation is picked for it (R104, R252, U3). Raised by every operation in such
  a state. Safe: no state reachable from reset has one. -/
  | reservedPhase
  deriving DecidableEq, Repr

/-- Why the model gives a configuration, a state or a schedule no meaning (R242). None is a behaviour of the hardware. -/
inductive Refusal where
  /-- An instruction the model gives no meaning yet: none. Safe. -/
  | notModelled (mnemonic : String)
  /-- `BadParameter`: a parameter outside its legal values (R12, R242), or a test instance of a size that `FRAME` or `TXIDX`
  cannot count to (R39, R40; log 13). Raised by every operation and by reset. Safe. -/
  | badParameter
  /-- `BadSeed`: `PRNG_SEED = 0` (R242). Raised by every operation and by reset. Safe. -/
  | badSeed
  /-- `BadPostShift`: `POSTSHIFT` other than 0 (R124, R242). Raised by every operation and by reset. Safe. -/
  | badPostShift
  /-- `InvalidLength`: a vector or store of the wrong length (R241, R242). Raised by every operation and by reset. Safe. -/
  | invalidLength
  /-- `BadState`: a state that breaks an invariant of R48 (R242, U12). Raised by every operation. Safe: unreachable from
  reset. -/
  | badState
  /-- A reserved P code on a line that drives the arithmetic unit (R104, U4). Raised by such a line only. Safe. -/
  | reservedPrimitive
  /-- A `SEQ` line that names another phase than `PH` holds, or `SEQ WAIT` with `RESTART = 0`: the schedule is ill-formed
  (R106). Raised by `SEQ` lines, and by an S operation asked for in another phase than its own. Safe. -/
  | illFormedSchedule
  deriving DecidableEq, Repr

/-- One step's outcome. -/
abbrev Result := Host.Outcome State Fault Refusal

/-- The state that a reset step leaves (R49, R265), from what reset does not touch: the parameters, the steps still to come,
the bytes already handed over (R267), and the counter the unspecified elements are drawn from. -/
def State.resetWith (cfg : Config) (tick : Nat) (sched : List Line) (wire : List Byte) : State where
  mu := BitVec.ofNat 16 cfg.muMin
  power := BitVec.ofNat 16 cfg.powerMin
  restart := true
  muRun := BitVec.ofNat 16 (Config.unspecMuRun tick).val
  powerRun := BitVec.ofNat 16 (Config.unspecPowerRun tick).val
  w := cfg.wInit
  dlp := List.replicate cfg.lineLen 0
  dla := List.replicate cfg.lineLen 0
  xb := (List.range cfg.block).map (Config.unspecXB tick)
  db := (List.range cfg.block).map (Config.unspecDB tick)
  yb := (List.range cfg.block).map (Config.unspecYB tick)
  eb := (List.range cfg.block).map (Config.unspecEB tick)
  acc := 0
  prng := cfg.prngSeed
  et := (List.range cfg.numFrames).map (Config.unspecET tick)
  dist := 32767
  conv := false
  frame := 0
  txidx := 0
  ph := phWait
  txs := []
  cfg := cfg
  wire := wire
  txReady := false
  opA := 0
  opB := 0
  resS := 0
  resM := 0
  sched := sched
  tick := tick

/-- The machine right after reset (R49), with the test default parameters (log 2) and nothing scheduled (log 5). -/
def State.reset : State := State.resetWith Config.testDefault 0 [] []

end Sys2Proof.Machine
end

