-- ==== Sys2Proof/Machine/Launch.lean ====
section
/-! DEFINITION. Which configurations and states the model gives a meaning (10_state.md R48, 60_exceptions.md R241, R242,
R252), and the guard every operation goes through. -/

namespace Sys2Proof.Machine

/-- The vectors of the configuration have `N` elements (R242 `InvalidLength`). -/
abbrev configLengths (c : Config) : Prop :=
  c.hCoef.length = c.taps ∧ c.wInit.length = c.taps

/-- `N`, `B` and `NUMFRAMES`: 30, 100 and 100 to 10000 for the hardware (R11, R12). A test instance may take any of them
from 1 (R10, R242) up to what the registers hold: `FRAME` counts to `NUMFRAMES` in 14 bits (R39), `TXIDX` to `4 N - 1` and
`2 NUMFRAMES - 1` in 15 (R40; log 13). -/
abbrev configSizes (c : Config) : Prop :=
  (c.testInstance = false ∧ c.taps = 30 ∧ c.block = 100 ∧ 100 ≤ c.numFrames ∧ c.numFrames ≤ 10000) ∨
  (c.testInstance = true ∧ 1 ≤ c.taps ∧ 4 * c.taps ≤ 2 ^ 15 ∧ 1 ≤ c.block ∧ 1 ≤ c.numFrames ∧ c.numFrames < 2 ^ 14)

/-- The legal values of R12 (R242 `BadParameter`). -/
abbrev configRanges (c : Config) : Prop :=
  configSizes c ∧ c.muMin ≤ paramMax ∧ c.powerMin ≤ paramMax ∧ c.distThreshold ≤ 32767 ∧ c.accW = 40

/-- Why a configuration is refused (R242), if it is. -/
def configProblem (c : Config) : Option Refusal :=
  if c.postShift ≠ 0 then some .badPostShift
  else if c.prngSeed = 0 then some .badSeed
  else if ¬ configLengths c then some .invalidLength
  else if ¬ configRanges c then some .badParameter
  else none

/-- A configuration the model gives a meaning. -/
abbrev configLegal (c : Config) : Prop :=
  c.postShift = 0 ∧ c.prngSeed ≠ 0 ∧ configLengths c ∧ configRanges c

/-- Every store has its length (R48 items 1 and 2, R241). -/
abbrev storeLengths (s : State) : Prop :=
  s.w.length = s.cfg.taps ∧ s.dlp.length = s.cfg.lineLen ∧ s.dla.length = s.cfg.lineLen ∧
  s.xb.length = s.cfg.block ∧ s.db.length = s.cfg.block ∧ s.yb.length = s.cfg.block ∧
  s.eb.length = s.cfg.block ∧ s.et.length = s.cfg.numFrames

/-- `PH` holds one of the ten legal phases (R48 item 6). -/
abbrev phaseLegal (s : State) : Prop := s.ph.toNat ≤ 9

/-- `PH` names one of the operations of a frame, `GEN` to `NEXTF`. -/
abbrev inFrame (s : State) : Prop := 2 ≤ s.ph.toNat ∧ s.ph.toNat ≤ 7

/-- The bounds of R48 items 5 and 7 to 10, with the ranges of `DIST` and `TXIDX` (R37, R40). Items 3 and 4 hold by type. -/
abbrev stateBounds (s : State) : Prop :=
  (s.cfg.muMin ≤ s.mu.toNat ∧ s.mu.toNat ≤ paramMax) ∧
  (s.cfg.powerMin ≤ s.power.toNat ∧ s.power.toNat ≤ paramMax) ∧
  s.frame.toNat ≤ s.cfg.numFrames ∧
  (inFrame s → s.frame.toNat < s.cfg.numFrames) ∧
  s.txidx.toNat < max s.cfg.coefFrameLen s.cfg.errFrameLen ∧
  (s.ph = phTxc → s.txidx.toNat < s.cfg.coefFrameLen) ∧
  (s.ph = phTxe → s.txidx.toNat < s.cfg.errFrameLen) ∧
  s.prng ≠ 0 ∧
  s.dist.toNat ≤ 32767 ∧
  (s.conv = true ↔ s.dist.toNat < s.cfg.distThreshold)

/-- A state the model gives a meaning. -/
abbrev legal (s : State) : Prop :=
  configLegal s.cfg ∧ storeLengths s ∧ phaseLegal s ∧ stateBounds s

/-- Runs `body` in a legal state. In any other it takes no step: it refuses a bad configuration, a store of the wrong
length (never truncating or padding, R241) or a broken bound, and faults on a reserved `PH` (R104, R252; log 12). -/
def guarded (s : State) (body : Result) : Result :=
  match configProblem s.cfg with
  | some r => .refused r
  | none =>
    if ¬ storeLengths s then .refused .invalidLength
    else if ¬ phaseLegal s then .fault .reservedPhase
    else if ¬ stateBounds s then .refused .badState
    else body

/-- Runs `body` when the phase is `phase`, the precondition every S operation has (R135, R144, R158 and so on). Asked for in
another phase the operation has no meaning (R106; log 18). -/
def inPhase (s : State) (phase : BitVec 4) (body : Result) : Result :=
  guarded s (if s.ph = phase then body else .refused .illFormedSchedule)

end Sys2Proof.Machine
end

