-- ==== Sys2Proof/Machine/Operands.lean ====
section
/-! DEFINITION. The number formats and the arithmetic of the multiply-accumulate unit (40_fixed_point.md R110 to R125):
every value is formed as an exact integer and narrowed once, at the end. -/

namespace Sys2Proof.Machine

/-- `rnd15`: divide by `2^15`, to the nearest integer, a tie toward plus infinity (R111). -/
def rnd15 (p : Int) : Int := (p + 16384) / 32768

/-- `sat16`: the nearest end of the 16-bit signed range (R112). -/
def sat16 (v : Int) : Int := if v < -32768 then -32768 else if v > 32767 then 32767 else v

/-- `satW` at `ACC_W` = 40: the nearest end of the 40-bit signed range (R114). -/
def satAcc (v : Int) : Int :=
  if v < -549755813888 then -549755813888 else if v > 549755813887 then 549755813887 else v

/-- `clampu` (R17). -/
def clampu (v c : Nat) : Nat := if v > c then c else v

/-- The sample with a raw value in range (R15 `u16`, R16). -/
def ofRaw (v : Int) : Sample := BitVec.ofInt 16 v

/-- `MACC`'s sum: the exact product added, clamped to the accumulator's range (R114). -/
def macc (acc : Acc) (a b : Sample) : Acc := BitVec.ofInt 40 (satAcc (acc.toInt + a.toInt * b.toInt))

/-- `ASCL`'s result (R115). -/
def ascl (acc : Acc) : Sample := ofRaw (sat16 (rnd15 acc.toInt))

/-- `QMUL` (R116). -/
def qmul (a b : Sample) : Sample := ofRaw (sat16 (rnd15 (a.toInt * b.toInt)))

/-- `SADD` (R117). -/
def sadd (a b : Sample) : Sample := ofRaw (sat16 (a.toInt + b.toInt))

/-- `SSUB` (R118). -/
def ssub (a b : Sample) : Sample := ofRaw (sat16 (a.toInt - b.toInt))

/-- `SABS` (R119). -/
def sabs (a : Sample) : Sample := ofRaw (sat16 (if a.toInt < 0 then -a.toInt else a.toInt))

/-- `UMIN`, for operands 0 to 32767 (R120). For others R120 states no result: a free value (log 14). -/
def umin (tick : Nat) (a b : Sample) : Sample :=
  if a.toNat ≤ 32767 ∧ b.toNat ≤ 32767 then (if a.toNat ≤ b.toNat then a else b)
  else Config.uminOutside tick a b

/-- `AMEAN`: the mean over `block` of a non-negative `ACC`, rounded down and clamped to `MSE_CEIL` (R121). For a negative
`ACC` R121 states no result: a free value (log 15). -/
def amean (tick block : Nat) (acc : Acc) : ErrVal :=
  if acc.toInt < 0 then Config.ameanNegative tick acc
  else BitVec.ofNat 18 (clampu (acc.toInt.toNat / block) mseCeil)

/-- `STAIR` (R180): the comparison is on the value before the step, the clamp after it. -/
def stair (v : Nat) : Nat :=
  let t := if v < stairKnee then v * stairMul else v + stairAdd
  if t > paramMax then paramMax else t

/-- `STAIR` on a parameter register (R82: the pattern is the raw value). -/
def stairReg (v : Sample) : Sample := BitVec.ofNat 16 (stair v.toNat)

/-- `ENTRY(m) = m[17:2]` (R84, R198). -/
def errEntry (m : ErrVal) : BitVec 16 := m.extractLsb' 2 16

/-- Bits 7:0 of a 16-bit pattern, the byte sent first (R62). -/
def lowByte (p : BitVec 16) : Byte := p.extractLsb' 0 8

/-- Bits 15:8 of a 16-bit pattern, the byte sent second (R62). -/
def highByte (p : BitVec 16) : Byte := p.extractLsb' 8 8

end Sys2Proof.Machine
end

