-- ==== Sys2Proof/Machine/Flags.lean ====
section
/-! DEFINITION. The engine's two flags, `RESTART` and `CONV`; there are no others (10_state.md R45). -/

namespace Sys2Proof.Machine

/-- `CONV` is 1 exactly when the distance lies strictly below `DIST_THRESHOLD` (R170, R172). -/
def convFlag (c : Config) (dist : Sample) : Bool := decide (dist.toNat < c.distThreshold)

/-- An event raises `RESTART` (R23, R183 to R185). -/
def State.raiseRestart (s : State) : State := { s with restart := true }

/-- `START` clears both flags (R45, R218). -/
def State.clearFlags (s : State) : State := { s with restart := false, conv := false }

end Sys2Proof.Machine
end

