-- ==== Sys2Proof/Machine/Ops.lean ====
section
/-! DEFINITION. The operations that several instructions share: moving the phase, the delay-line shift, the dot product,
`Emit`, and the reset step. The engine takes no exception and returns from none (60_exceptions.md R240, R246, R247), so there
is no entry operation: an event acts by `RESTART` (Machine/Flags.lean) and the `START` step it leads to. -/

namespace Sys2Proof.Machine

/-- `PH <- phase` (R17). -/
def State.toPhase (s : State) (phase : BitVec 4) : State := { s with ph := phase }

/-- `SHIFT D, x`: every sample moves one place on, the last is discarded, `x` comes first (R131). -/
def shiftLine (d : List Sample) (x : Sample) : List Sample := (x :: d).take d.length

/-- `MACC C[i], D[i]` for every tap in order (R133); only as many elements of the line as there are taps are read. -/
def maccAll : Acc → List Sample → List Sample → Acc
  | acc, c :: cs, d :: ds => maccAll (macc acc c d) cs ds
  | acc, _, _ => acc

/-- `ACC` after `ACLR` and the `MACC`s of `DOT C, D` (R133). -/
def dotAcc (c d : List Sample) : Acc := maccAll 0 c d

/-- `DOT C, D` (R133). -/
def dot (c d : List Sample) : Sample := ascl (dotAcc c d)

/-- `Emit(b, last)`: the pair is appended to `TXS` and the byte handed to the transport (R203). -/
def State.emit (s : State) (b : Byte) (last : Bool) : State :=
  { s with txs := s.txs ++ [(b, last)], wire := s.wire ++ [b] }

/-- The operands a caller supplies to the arithmetic unit (R96; log 8). -/
def State.withOperands (s : State) (a b : Sample) : State := { s with opA := a, opB := b }

/-- The level of the port `tx_ready` in the step being taken (R75; log 9). -/
def State.withReady (s : State) (r : Bool) : State := { s with txReady := r }

/-- The reset step of the agent `RESET`: atomic, enabled in every state (R265). Only a configuration without a meaning is
refused (R242). -/
def resetStep (s : State) : Result :=
  match configProblem s.cfg with
  | some r => .refused r
  | none => .next (State.resetWith s.cfg s.tick s.sched s.wire)

/-- Runs `f` from the next state of `o`; a fault or refusal ends there. -/
def andThen (o : Result) (f : State → Result) : Result :=
  match o with
  | .next s => f s
  | .fault r => .fault r
  | .refused r => .refused r

end Sys2Proof.Machine
end

