-- ==== Sys2Proof/Machine/Adaptive.lean ====
section
/-! DEFINITION. AdaptiveFilter: `LMSS` and `ADAPT` (42_lms_adaptive.md R140 to R149). -/

namespace Sys2Proof.Machine

/-- Step 4 of `LMSS`: every tap `W[i] <- SADD W[i], (QMUL alpha, DLA[i])` (R141). -/
def updateTaps (alpha : Sample) (w dla : List Sample) : List Sample :=
  List.zipWith (fun wi xi => sadd wi (qmul alpha xi)) w dla

/-- What `LMSS` changes and gives: `W`, `DLA`, `ACC`, `y[n]`, `e[n]`. -/
structure LmsSample where
  w : List Sample
  dla : List Sample
  acc : Acc
  y : Sample
  e : Sample
  deriving DecidableEq, Repr

/-- `LMSS n` for the input sample `x = XB[n]` and the reference `d = DB[n]` (R141). -/
def lmsSample (muRun : Sample) (w dla : List Sample) (x d : Sample) : LmsSample :=
  let dla' := shiftLine dla x
  let y := dot w dla'
  let e := ssub d y
  let alpha := qmul muRun e
  { w := updateTaps alpha w dla', dla := dla', acc := dotAcc w dla', y := y, e := e }

/-- What a run of `LMSS` over samples leaves. -/
structure LmsRun where
  w : List Sample
  dla : List Sample
  acc : Acc
  yb : List Sample
  eb : List Sample
  deriving DecidableEq, Repr

/-- `LMSS n` for the samples of a block strictly in order, the taps updated in place (R142, R144). -/
def lmsRun (muRun : Sample) : List Sample → List Sample → List Sample → List Sample → Acc → LmsRun
  | x :: xs, d :: ds, w, dla, _ =>
    let t := lmsSample muRun w dla x d
    let r := lmsRun muRun xs ds t.w t.dla t.acc
    { r with yb := t.y :: r.yb, eb := t.e :: r.eb }
  | _, _, w, dla, acc => ⟨w, dla, acc, [], []⟩

/-- `ADAPT`'s effect (R144). -/
def State.adaptBlock (s : State) : State :=
  let r := lmsRun s.muRun s.xb s.db s.w s.dla s.acc
  { s with w := r.w, dla := r.dla, acc := r.acc, yb := r.yb, eb := r.eb, ph := phMse }

/-- `ADAPT` (R144). -/
def execAdapt (s : State) : Result := inPhase s phAdapt (.next s.adaptBlock)

end Sys2Proof.Machine
end

