-- ==== Sys2Proof/Machine/FixedPoint.lean ====
section
/-! DEFINITION. The P operations, FixedPointArithmetic (40_fixed_point.md R113 to R121), run alone on the operands in `opA`,
`opB` and on `ACC` (log 8). No flag is touched. -/

namespace Sys2Proof.Machine

/-- `ACLR` (R113). -/
def execAclr (s : State) : Result := guarded s (.next { s with acc := 0 })

/-- `MACC a, b` (R114). -/
def execMacc (s : State) : Result := guarded s (.next { s with acc := macc s.acc s.opA s.opB })

/-- `ASCL` (R115): `ACC` is unchanged. -/
def execAscl (s : State) : Result := guarded s (.next { s with resS := ascl s.acc })

/-- `QMUL a, b` (R116): `ACC` is not touched. -/
def execQmul (s : State) : Result := guarded s (.next { s with resS := qmul s.opA s.opB })

/-- `SADD a, b` (R117). -/
def execSadd (s : State) : Result := guarded s (.next { s with resS := sadd s.opA s.opB })

/-- `SSUB a, b` (R118). -/
def execSsub (s : State) : Result := guarded s (.next { s with resS := ssub s.opA s.opB })

/-- `SABS a` (R119). -/
def execSabs (s : State) : Result := guarded s (.next { s with resS := sabs s.opA })

/-- `UMIN a, b` (R120). -/
def execUmin (s : State) : Result := guarded s (.next { s with resS := umin s.tick s.opA s.opB })

/-- `AMEAN` (R121): `ACC` is unchanged. -/
def execAmean (s : State) : Result := guarded s (.next { s with resM := amean s.tick s.cfg.block s.acc })

end Sys2Proof.Machine
end

