-- ==== Sys2Proof/Machine/Monitor.lean ====
section
/-! DEFINITION. ConvergenceMonitor: `MSE` and `DIST` (44_convergence.md R165 to R173). Both only observe the filters. -/

namespace Sys2Proof.Machine

/-- `MSE`'s effect: `ET[FRAME] <- AMEAN` of the sum of the squared errors (R166). -/
def State.mseBlock (s : State) : State :=
  let a := maccAll 0 s.eb s.eb
  { s with acc := a, et := s.et.set s.frame.toNat (amean s.tick s.cfg.block a), ph := phDist }

/-- `MSE` (R166). -/
def execMse (s : State) : Result := inPhase s phMse (.next s.mseBlock)

/-- `UMIN` over the taps of the saturating absolute differences, from `m` (R170). -/
def tapDistance (tick : Nat) : List Sample → List Sample → Sample → Sample
  | h :: hs, w :: ws, m => tapDistance tick hs ws (umin tick m (sabs (ssub h w)))
  | _, _, m => m

/-- `DIST`'s effect (R170). -/
def State.distBlock (s : State) : State :=
  let m := tapDistance s.tick s.h s.w 32767
  { s with dist := m, conv := convFlag s.cfg m, ph := phNextf }

/-- `DIST` (R170). -/
def execDist (s : State) : Result := inPhase s phDist (.next s.distBlock)

end Sys2Proof.Machine
end

