-- ==== Sys2Proof/Machine/ParamCtrl.lean ====
section
/-! DEFINITION. ParameterController: the event operations (45_param_ctrl.md R180 to R189). Each is one atomic step, enabled
whatever the sequencer does (R183, R244). -/

namespace Sys2Proof.Machine

/-- `MU <- STAIR(MU)` (R183). -/
def State.stepMu (s : State) : State := { s with mu := stairReg s.mu }

/-- `POWER <- STAIR(POWER)` (R184). -/
def State.stepPower (s : State) : State := { s with power := stairReg s.power }

/-- `EVNONE`: no state changes (R186). -/
def execEvnone (s : State) : Result := guarded s (.next s)

/-- `EVMU` (R183). -/
def execEvmu (s : State) : Result := guarded s (.next s.stepMu.raiseRestart)

/-- `EVPOW` (R184). -/
def execEvpow (s : State) : Result := guarded s (.next s.stepPower.raiseRestart)

/-- `EVBOTH` (R185). -/
def execEvboth (s : State) : Result := guarded s (.next s.stepMu.stepPower.raiseRestart)

end Sys2Proof.Machine
end

