-- ==== Sys2Proof/Machine/Plant.lean ====
section
/-! DEFINITION. PlantModel: `FIRS` and `PLANT` (41_plant_fir.md R130 to R136). -/

namespace Sys2Proof.Machine

/-- What a run of `FIRS` over samples leaves: the delay line, the accumulator, the output samples. -/
structure PlantRun where
  dlp : List Sample
  acc : Acc
  out : List Sample
  deriving DecidableEq, Repr

/-- `FIRS n` for the samples of a block in order: shift the sample in, then one dot product with `H` (R134, R135). -/
def plantRun (h : List Sample) : List Sample → List Sample → Acc → PlantRun
  | [], d, acc => ⟨d, acc, []⟩
  | x :: xs, d, _ =>
    let d' := shiftLine d x
    let r := plantRun h xs d' (dotAcc h d')
    ⟨r.dlp, r.acc, dot h d' :: r.out⟩

/-- `PLANT`'s effect (R135). -/
def State.plantBlock (s : State) : State :=
  let r := plantRun s.h s.xb s.dlp s.acc
  { s with dlp := r.dlp, db := r.out, acc := r.acc, ph := phAdapt }

/-- `PLANT` (R135). -/
def execPlant (s : State) : Result := inPhase s phPlant (.next s.plantBlock)

end Sys2Proof.Machine
end

