-- ==== Sys2Proof/Machine/Sequencer.lean ====
section
/-! DEFINITION. The run sequencer: `WAIT`, `START`, `NEXTF` (47_sequencer.md R215 to R228). -/

namespace Sys2Proof.Machine

/-- `WAIT` (R217): on to `START` when `RESTART = 1`; a hold, which changes nothing, while it is 0 (log 10). -/
def execWait (s : State) : Result :=
  inPhase s phWait (.next (if s.restart then s.toPhase phStart else s))

/-- `START`'s effect, one atomic step (R218). -/
def State.beginRun (s : State) : State :=
  { s.clearFlags with
    muRun := s.mu
    powerRun := s.power
    w := s.cfg.wInit
    dla := List.replicate s.cfg.lineLen 0
    dlp := List.replicate s.cfg.lineLen 0
    frame := 0
    dist := 32767
    ph := phGen }

/-- `START` (R218). -/
def execStart (s : State) : Result := inPhase s phStart (.next s.beginRun)

/-- `NEXTF`'s effect: count the frame, then loop or go to telemetry (R219). -/
def State.countFrame (s : State) : State :=
  let t := { s with frame := s.frame + 1 }
  if t.frame.toNat = s.cfg.numFrames then { t with txidx := 0, ph := phTxc } else { t with ph := phGen }

/-- `NEXTF` (R219). -/
def execNextf (s : State) : Result := inPhase s phNextf (.next s.countFrame)

end Sys2Proof.Machine
end

