-- ==== Sys2Proof/Machine/Source.lean ====
section
/-! DEFINITION. SignalSource: `PRNS`, `DRAW` and `GEN` (43_signal_source.md R155 to R160). -/

namespace Sys2Proof.Machine

/-- `PRNS`: the generator's step (R156). -/
def prns (g : GenWord) : GenWord :=
  let a := g ^^^ (g <<< 13)
  let b := a ^^^ (a >>> 17)
  b ^^^ (b <<< 5)

/-- The raw draw: the upper half of the generator word (R89, R157). -/
def rawDraw (g : GenWord) : Sample := g.extractLsb' 16 16

/-- `DRAW`'s result from the generator word after its step (R157). -/
def drawSample (g : GenWord) (powerRun : Sample) : Sample := qmul (rawDraw g) powerRun

/-- What a run of `DRAW`s leaves: the generator word, the samples. -/
structure GenRun where
  prng : GenWord
  out : List Sample
  deriving DecidableEq, Repr

/-- `n` times `DRAW`, one generator step for each sample, in order (R158). -/
def genRun (powerRun : Sample) : Nat → GenWord → GenRun
  | 0, g => ⟨g, []⟩
  | n + 1, g =>
    let g' := prns g
    let r := genRun powerRun n g'
    ⟨r.prng, drawSample g' powerRun :: r.out⟩

/-- `GEN`'s effect (R158). -/
def State.genBlock (s : State) : State :=
  let r := genRun s.powerRun s.cfg.block s.prng
  { s with prng := r.prng, xb := r.out, ph := phPlant }

/-- `GEN` (R158). -/
def execGen (s : State) : Result := inPhase s phGen (.next s.genBlock)

end Sys2Proof.Machine
end

