-- ==== Sys2Proof/Machine/Telemetry.lean ====
section
/-! DEFINITION. TelemetryEncoder: the bytes of the two frames, `TXC` and `TXE`, and the receiver's inverse
(46_telemetry.md R195 to R208). Indices are in range in every legal state (20_memory.md R61). -/

namespace Sys2Proof.Machine

/-- `CoefByte(k)`: the adaptive coefficients, then the plant's, low byte then high byte each (R196). -/
def State.coefByte (s : State) (k : Nat) : Byte :=
  let v := if k < 2 * s.cfg.taps then s.w.getD (k / 2) 0 else s.h.getD ((k - 2 * s.cfg.taps) / 2) 0
  if k % 2 = 0 then lowByte v else highByte v

/-- `ErrByte(k)`: the entries of the error trace, low byte then high byte each (R199). -/
def State.errByte (s : State) (k : Nat) : Byte :=
  let m := s.et.getD (k / 2) 0
  if k % 2 = 0 then lowByte (errEntry m) else highByte (errEntry m)

/-- `FrameByte(p, k)` (R201). -/
def State.frameByte (s : State) (p : BitVec 4) (k : Nat) : Byte :=
  if p = phTxc then s.coefByte k else s.errByte k

/-- The byte at `TXIDX` is the last of its telemetry frame (R202, R204). -/
def State.atLast (s : State) (len : Nat) : Bool := decide (s.txidx.toNat + 1 = len)

/-- `TXC`'s effect when the transport is ready (R202). -/
def State.sendCoef (s : State) : State :=
  let last := s.atLast s.cfg.coefFrameLen
  let t := s.emit (s.coefByte s.txidx.toNat) last
  if last then { t with txidx := 0, ph := if s.cfg.errTraceEn then phTxe else phWait }
  else { t with txidx := s.txidx + 1 }

/-- `TXC` (R202): a joint step with the transport; while it is not ready the sequencer holds (log 10). -/
def execTxc (s : State) : Result := inPhase s phTxc (.next (if s.txReady then s.sendCoef else s))

/-- `TXE`'s effect when the transport is ready (R204). -/
def State.sendErr (s : State) : State :=
  let last := s.atLast s.cfg.errFrameLen
  let t := s.emit (s.errByte s.txidx.toNat) last
  if last then { t with txidx := 0, ph := phWait } else { t with txidx := s.txidx + 1 }

/-- `TXE` (R204): hold and lift as for `TXC` (log 10). -/
def execTxe (s : State) : Result := inPhase s phTxe (.next (if s.txReady then s.sendErr else s))

/-- The coefficient frame (R86, R197). -/
def State.coefFrame (s : State) : List Byte := (List.range s.cfg.coefFrameLen).map s.coefByte

/-- The error-trace frame (R87, R200). -/
def State.errFrame (s : State) : List Byte := (List.range s.cfg.errFrameLen).map s.errByte

/-- The pairs a frame leaves in `TXS`: only the last byte carries `last = 1` (R202 to R204). -/
def markLast : List Byte → List (Byte × Bool)
  | [] => []
  | [b] => [(b, true)]
  | b :: c :: bs => (b, false) :: markLast (c :: bs)

/-- The receiver's reading of a pair of bytes, low byte first (R205). -/
def readPair (lo hi : Byte) : BitVec 16 := hi ++ lo

/-- The receiver's reading of a frame as 16-bit values (R205). -/
def readPairs : List Byte → List (BitVec 16)
  | lo :: hi :: rest => readPair lo hi :: readPairs rest
  | _ => []

end Sys2Proof.Machine
end

