-- ==== Sys2Proof/Machine/Dispatch.lean ====
section
/-! DEFINITION. One arm per operation, each a direct call of its meaning. -/

namespace Sys2Proof.Machine

open Host (Outcome)

def exec (i : Instr) (s : State) : Host.Outcome State Fault Refusal :=
  match i with
  | .aclr => Sys2Proof.Machine.execAclr s
  | .macc => Sys2Proof.Machine.execMacc s
  | .ascl => Sys2Proof.Machine.execAscl s
  | .qmul => Sys2Proof.Machine.execQmul s
  | .sadd => Sys2Proof.Machine.execSadd s
  | .ssub => Sys2Proof.Machine.execSsub s
  | .sabs => Sys2Proof.Machine.execSabs s
  | .umin => Sys2Proof.Machine.execUmin s
  | .amean => Sys2Proof.Machine.execAmean s
  | .wait => Sys2Proof.Machine.execWait s
  | .start => Sys2Proof.Machine.execStart s
  | .gen => Sys2Proof.Machine.execGen s
  | .plant => Sys2Proof.Machine.execPlant s
  | .adapt => Sys2Proof.Machine.execAdapt s
  | .mse => Sys2Proof.Machine.execMse s
  | .dist => Sys2Proof.Machine.execDist s
  | .nextf => Sys2Proof.Machine.execNextf s
  | .txc => Sys2Proof.Machine.execTxc s
  | .txe => Sys2Proof.Machine.execTxe s
  | .evnone => Sys2Proof.Machine.execEvnone s
  | .evmu => Sys2Proof.Machine.execEvmu s
  | .evpow => Sys2Proof.Machine.execEvpow s
  | .evboth => Sys2Proof.Machine.execEvboth s

end Sys2Proof.Machine
end

