-- ==== Sys2Proof/Machine/Ports.lean ====
section
/-! DEFINITION. The output ports (20_memory.md R75), functions of the state. -/

namespace Sys2Proof.Machine

/-- `tx_valid`: 1 exactly when `PH` is `TXC` or `TXE`. -/
def State.txValid (s : State) : Bool := decide (s.ph = phTxc ∨ s.ph = phTxe)

/-- `tx_data`: the byte offered while `tx_valid = 1`, any value otherwise (U2; log 16). -/
def State.txData (s : State) : Byte :=
  if s.txValid then s.frameByte s.ph s.txidx.toNat else Config.idleTxData s.tick

/-- `tx_last`: while `tx_valid = 1`, whether the byte offered is the last of its telemetry frame; any value otherwise (U2;
log 16). -/
def State.txLast (s : State) : Bool :=
  if s.txValid then s.atLast (if s.ph = phTxc then s.cfg.coefFrameLen else s.cfg.errFrameLen)
  else Config.idleTxLast s.tick

/-- `conv`: the register `CONV`. -/
def State.convPort (s : State) : Bool := s.conv

/-- `idle`: 1 exactly when `PH = WAIT`. -/
def State.idle (s : State) : Bool := decide (s.ph = phWait)

end Sys2Proof.Machine
end

