-- ==== Sys2Proof/Machine/Schedule.lean ====
section
/-! DEFINITION. The agents' steps: running one line of a schedule (30_encoding.md R106), one clocked step (20_memory.md R75
to R77), taking the next line, and the pseudo-operations (R107). -/

namespace Sys2Proof.Machine

/-- A step of `SEQ`: the operation that `PH` names (R98, R216), the transport showing `ready`. -/
def seqStep (ready : Bool) (s : State) : Result :=
  match decode (.s s.ph) with
  | .ok i => exec i (s.withReady ready)
  | .error _ => guarded s (.fault .reservedPhase)

/-- The line `SEQ <phase>`: ill-formed unless `phase` is the one `PH` holds, and for `WAIT` with `RESTART = 0`; the
transport is ready (R106; log 18). That an ill-formed line is reported before a bad configuration or a broken bound, and after
a reserved `PH`, is a DESIGN CHOICE (log 12). -/
def runSeqLine (phase : BitVec 4) (s : State) : Result :=
  if phaseLegal s ∧ (s.ph ≠ phase ∨ (s.ph = phWait ∧ s.restart = false)) then .refused .illFormedSchedule
  else seqStep true s

/-- A line that drives the arithmetic unit alone (R96; log 8); a reserved function select is refused (U4), before a
bad configuration or state is: DESIGN CHOICE (log 12). -/
def runPrimLine (fn : BitVec 4) (a b : Sample) (s : State) : Result :=
  match decode (.p fn) with
  | .ok i => exec i (s.withOperands a b)
  | .error _ => .refused .reservedPrimitive

/-- The E code the two event ports carry: `ev[0] = ev_mu`, `ev[1] = ev_pow` (R99). -/
def eventCode (evMu evPow : Bool) : BitVec 2 := BitVec.ofBool evPow ++ BitVec.ofBool evMu

/-- Whether the sequencer takes its step in a clocked step: when it is scheduled (log 17), and whenever `tx_valid = 1` and
`tx_ready = 1`, for then a byte moves and that step is the `TXC` or `TXE` operation (R76). -/
def seqActs (inp : StepInput) (s : State) : Bool := inp.seq || (s.txValid && inp.txReady)

/-- One clocked step: reset before everything (R245, R265); else the sequencer's operation, if it takes its step, followed by
the event on the ports (R76, R77; log 17). -/
def runClock (inp : StepInput) (s : State) : Result :=
  if inp.rst then resetStep s
  else
    andThen (if seqActs inp s then seqStep inp.txReady s else .next (s.withReady inp.txReady))
      (exec (decodeEvent (eventCode inp.evMu inp.evPow)))

/-- One agent step. -/
def runLine (l : Line) (s : State) : Result :=
  match l with
  | .rst => resetStep s
  | .seq phase => runSeqLine phase s
  | .ev code => exec (decodeEvent code) s
  | .prim fn a b => runPrimLine fn a b s
  | .clock inp => runClock inp s

/-- The next agent step: the head of the schedule; with nothing listed, whatever the environment does then (log 6). -/
def nextLine (s : State) : Line :=
  match s.sched with
  | l :: _ => l
  | [] => .clock (Config.envInput s.tick)

/-- The state that the next agent step runs in: its line is taken off and the counter has moved on (log 7). -/
def State.popLine (s : State) : State := { s with sched := s.sched.tail, tick := s.tick + 1 }

/-- `s` with the code `c` placed where its carrier brings it to the next step: an S code in `PH` with the line that schedules
the sequencer, an E code on the event ports, a P code on the function select. -/
def State.withCode (s : State) (c : Code) : State :=
  match c with
  | .p fn => { s with sched := .prim fn s.opA s.opB :: s.sched }
  | .s ph => { s with ph := ph, sched := .seq ph :: s.sched }
  | .e ev => { s with sched := .ev ev :: s.sched }

/-! The pseudo-operations of R107. -/

/-- `.rep k { lines }`. -/
def rep : Nat → List Line → List Line
  | 0, _ => []
  | k + 1, ls => ls ++ rep k ls

/-- `FRAMEOPS`. -/
def frameOps : List Line := [.seq phGen, .seq phPlant, .seq phAdapt, .seq phMse, .seq phDist, .seq phNextf]

/-- `TXCOEF`. -/
def txCoef (c : Config) : List Line := rep c.coefFrameLen [.seq phTxc]

/-- `TXERR`. -/
def txErr (c : Config) : List Line := if c.errTraceEn then rep c.errFrameLen [.seq phTxe] else []

/-- `RUN`. -/
def runOps (c : Config) : List Line :=
  [.seq phWait, .seq phStart] ++ rep c.numFrames frameOps ++ txCoef c ++ txErr c

end Sys2Proof.Machine
end

