-- ==== Sys2Proof/Machine/Step.lean ====
section
/-! DEFINITION. One step of the machine: the next agent step of the total order (20_memory.md R68). -/

namespace Sys2Proof.Machine

/-- The next line of the schedule, run in the state it leaves behind. -/
def step (s : State) : Host.Outcome State Fault Refusal := runLine (nextLine s) s.popLine

/-- `s` with the operation of a table row placed where the next step fetches it; unchanged where the bits are no code. -/
def State.withFetchWord (s : State) (nbits w : Nat) : State :=
  match tableCode nbits w with
  | some c => s.withCode c
  | none => s

end Sys2Proof.Machine
end

