-- ==== Sys2Proof/Safety.lean ====
section
/-! DEFINITION. What the claims call a good state and a final state. -/

namespace Sys2Proof.Machine

/-- What holds in every state reachable from reset: the state is legal (R48), and the latched parameters lie from 0 to
28000 (R24, R25). -/
def State.Inv (s : State) : Prop :=
  legal s ∧ s.muRun.toNat ≤ paramMax ∧ s.powerRun.toNat ≤ paramMax

/-- The engine's final state: `PH = WAIT` with `RESTART = 0` (R227). -/
def State.Quiescent (s : State) : Prop := s.ph = phWait ∧ s.restart = false

/-- A hold in mid-run: a byte is offered and the transport is not ready (R227). -/
def State.Stalled (s : State) : Prop := s.txValid = true ∧ s.txReady = false

/-- `t` comes from `s` by steps of the machine. -/
inductive Reaches : State → State → Prop where
  | refl (s : State) : Reaches s s
  | tail (s t u : State) : Reaches s t → step t = .next u → Reaches s u

end Sys2Proof.Machine
end

