-- ==== Sys2Proof/Certificates/Slice0/Obligations.lean ====
section
/-! DEFINITION. The statements for the provers. A hypothesis `legal s` says that `s` breaks no invariant of 10_state.md R48
and that its configuration is one of R11 and R12 or a reduced test instance (log 13). A record equation `next` of `s` with
named fields says the frame too: every field it does not name keeps its value. -/

open Sys2Proof Sys2Proof.Machine

namespace Sys2Proof.Claims

/-- The nearest value of the 16-bit signed range. -/
def clip (v : Int) : Int := max (-32768) (min 32767 v)

/-- Division by `2^15`, rounded half up. -/
def scale (p : Int) : Int := (p + 16384) / 32768

/-- Raw value of element `i` of a store. -/
def raw (a : List Sample) (i : Nat) : Int := (a.getD i 0).toInt

/-- The sample of `i` samples ago when sample `n` of the block `xs` has just been shifted into a line that held `old`
(R132). -/
def tapSample (xs old : List Sample) (n i : Nat) : Int :=
  if i ≤ n then raw xs (n - i) else raw old (i - n - 1)

/-- The value in a 40-bit accumulator cleared first, after the terms `f 0` to `f (n - 1)` in order: every sum is clamped (R113,
R114, R133). -/
def accSum : Nat → (Nat → Int) → Int
  | 0, _ => 0
  | n + 1, f => max (-2 ^ 39) (min (2 ^ 39 - 1) (accSum n f + f n))

/-- A line of the schedule that is a reset step. -/
def resets : Line → Bool
  | .rst => true
  | .clock inp => inp.rst
  | _ => false

/-- The step that runs the operation `START`: the phase is `START` and the line is one of the sequencer's. (No byte moves in
`START`, so a clocked step runs it exactly when it schedules the sequencer.) -/
def runsStart (s : State) : Bool :=
  s.ph == phStart && match nextLine s with
    | .seq _ => true
    | .clock inp => inp.seq
    | _ => false

/-- Steps that are no reset and do not run `START`. -/
inductive BeforeStart : State → State → Prop where
  | refl (s : State) : BeforeStart s s
  | tail (s t u : State) : BeforeStart s t → resets (nextLine t) = false → runsStart t = false → step t = .next u →
      BeforeStart s u

/-- Two states that differ at most in elements which the run has not written since the last reset or `START`: in `WAIT` and
`START` the latches, the block buffers and the error trace; from `GEN` on the buffers that the frame has not filled yet and the
error values of the frames to come (R49, R50). Every other field is the same. -/
def AgreeWhereWritten (s t : State) : Prop :=
  ∃ (m p : Sample) (x d y e : List Sample) (et : List ErrVal),
    t = { s with muRun := m, powerRun := p, xb := x, db := d, yb := y, eb := e, et := et } ∧
    (x.length = s.xb.length ∧ d.length = s.db.length ∧ y.length = s.yb.length ∧ e.length = s.eb.length ∧
      et.length = s.et.length) ∧
    (phGen.toNat ≤ s.ph.toNat →
      m = s.muRun ∧ p = s.powerRun ∧ et.take s.frame.toNat = s.et.take s.frame.toNat) ∧
    (phPlant.toNat ≤ s.ph.toNat → x = s.xb) ∧
    (phAdapt.toNat ≤ s.ph.toNat → d = s.db) ∧
    (phMse.toNat ≤ s.ph.toNat → y = s.yb ∧ e = s.eb) ∧
    (phDist.toNat ≤ s.ph.toNat → et.take (s.frame.toNat + 1) = s.et.take (s.frame.toNat + 1)) ∧
    (phTxc.toNat ≤ s.ph.toNat → et = s.et)

end Sys2Proof.Claims

open Sys2Proof.Claims

/-! Codes. -/

/-- R97 to R99, R104: every operation's code decodes to it, no two operations share a code, and what decodes is what is not
reserved. -/
def Obligations.EncodeDecodeAgree : Prop :=
  (∀ i : Instr, decode (encode i) = .ok i) ∧
  (∀ (c : Code) (i : Instr), decode c = .ok i → encode i = c) ∧
  (∀ c : Code, c.wf = true ↔ ∃ i, decode c = .ok i)

/-- R97 to R99: codes written out from the tables, one or more of each format, and the reserved ones next to the last legal
ones. -/
def Obligations.TableCodesDecode : Prop :=
  decode (.p 0b0001#4) = .ok .macc ∧ decode (.p 0b0011#4) = .ok .qmul ∧ decode (.p 0b1000#4) = .ok .amean ∧
  decode (.p 0b1001#4) = .error (.reservedPrimitive 0b1001#4) ∧
  decode (.s 0b0000#4) = .ok .wait ∧ decode (.s 0b0100#4) = .ok .adapt ∧ decode (.s 0b1001#4) = .ok .txe ∧
  decode (.s 0b1010#4) = .error (.reservedPhase 0b1010#4) ∧
  decode (.e 0b01#2) = .ok .evmu ∧ decode (.e 0b10#2) = .ok .evpow

/-! Arithmetic. -/

/-- R111. -/
def Obligations.RoundingIsHalfUp : Prop :=
  (∀ p : Int, 32768 * rnd15 p ≤ p + 16384 ∧ p + 16384 < 32768 * (rnd15 p + 1)) ∧
  (∀ p : Int, rnd15 (-p) ≠ -rnd15 p ↔ p % 32768 = 16384) ∧
  (∀ p q : Int, p ≤ q → rnd15 p ≤ rnd15 q) ∧
  [0, 16383, 16384, 49151, 49152, -1, -16384, -16385, -49152, -49153, 2 ^ 30, -2 ^ 30].map rnd15 =
    [0, 0, 1, 1, 2, 0, 0, -1, -1, -2, 32768, -32768]

/-- R112. -/
def Obligations.SaturationClampsToSample : Prop :=
  (∀ v : Int, (v < -32768 → sat16 v = -32768) ∧ (32767 < v → sat16 v = 32767) ∧
    (-32768 ≤ v ∧ v ≤ 32767 → sat16 v = v)) ∧
  (∀ v : Int, sat16 (sat16 v) = sat16 v) ∧
  (∀ u v : Int, u ≤ v → sat16 u ≤ sat16 v) ∧
  [32768, -32769, -32768, 123].map sat16 = [32767, -32768, -32768, 123]

/-- R113. -/
def Obligations.AclrClearsAccumulator : Prop :=
  encode .aclr = .p 0b0000#4 ∧ ∀ s : State, legal s → exec .aclr s = .next { s with acc := 0 }

/-- R114, of the accumulator's new value. -/
def Obligations.MaccAddsExactProduct : Prop :=
  encode .macc = .p 0b0001#4 ∧
  (∀ (acc : Acc) (a b : Sample),
    (macc acc a b).toInt = max (-2 ^ 39) (min (2 ^ 39 - 1) (acc.toInt + a.toInt * b.toInt))) ∧
  (∀ a b : Sample, -1073709056 ≤ a.toInt * b.toInt ∧ a.toInt * b.toInt ≤ 2 ^ 30) ∧
  (∀ (acc : Acc) (a b : Sample), a = 0 ∨ b = 0 → macc acc a b = acc) ∧
  macc (macc 0 21120 100) (-5) 300 = 2110500

/-- R115, of the result. -/
def Obligations.AsclScalesAccumulator : Prop :=
  encode .ascl = .p 0b0010#4 ∧
  (∀ acc : Acc, (ascl acc).toInt = clip (scale acc.toInt)) ∧
  (∀ acc : Acc, 1073692672 ≤ acc.toInt → ascl acc = 32767) ∧
  (∀ acc : Acc, acc.toInt < -1073725440 → ascl acc = -32768) ∧
  ascl 1073741824 = 32767 ∧ ascl 16384 = 1 ∧ ascl (-16384) = 0 ∧ ascl 2110500 = 64

/-- R116, of the result: rounded product, clamped for one operand pair only, commutative, no larger than an operand. -/
def Obligations.QmulRoundsProduct : Prop :=
  encode .qmul = .p 0b0011#4 ∧
  (∀ a b : Sample, (qmul a b).toInt = clip (scale (a.toInt * b.toInt))) ∧
  (∀ a b : Sample, (qmul a b).toInt ≠ scale (a.toInt * b.toInt) ↔ a = -32768 ∧ b = -32768) ∧
  (∀ a b : Sample, qmul a b = qmul b a) ∧
  (∀ a b : Sample, |(qmul a b).toInt| ≤ min |a.toInt| |b.toInt| ∧ |(qmul a b).toInt| ≤ 32767) ∧
  (∀ a : Sample, qmul a 0 = 0) ∧
  qmul (-32768) (-32768) = 32767 ∧ qmul (-32768) 32767 = -32767 ∧ qmul 32767 32767 = 32766 ∧
  qmul 16384 16384 = 8192 ∧ qmul (-16384) 16384 = -8192 ∧ qmul 16384 (-16384) = -8192 ∧
  qmul (-16384) (-16384) = 8192 ∧ qmul 1 16384 = 1 ∧ qmul (-1) 16384 = 0 ∧ qmul 1 1 = 0 ∧ qmul 181 181 = 1 ∧
  qmul 5000 3 = 0 ∧ qmul 5000 4 = 1 ∧ qmul 5000 (-4) = -1 ∧ qmul 28000 (-32768) = -28000

/-- R117, of the result. -/
def Obligations.SaddSaturates : Prop :=
  encode .sadd = .p 0b0100#4 ∧
  (∀ a b : Sample, (sadd a b).toInt = clip (a.toInt + b.toInt)) ∧
  (∀ a b : Sample, sadd a b = sadd b a) ∧ (∀ a : Sample, sadd a 0 = a) ∧
  sadd (sadd 32767 1) (-1) = 32766 ∧ sadd 32767 (sadd 1 (-1)) = 32767 ∧
  sadd 32767 1 = 32767 ∧ sadd (-32768) (-1) = -32768 ∧ sadd 20000 20000 = 32767 ∧
  sadd (-20000) (-20000) = -32768 ∧ sadd 100 (-300) = -200

/-- R118, of the result. -/
def Obligations.SsubSaturates : Prop :=
  encode .ssub = .p 0b0101#4 ∧
  (∀ a b : Sample, (ssub a b).toInt = clip (a.toInt - b.toInt)) ∧ (∀ a : Sample, ssub a a = 0) ∧
  ssub (-32768) 1 = -32768 ∧ ssub 32767 (-1) = 32767 ∧ ssub 0 (-32768) = 32767 ∧
  ssub (-32768) 32767 = -32768 ∧ ssub 32767 (-32768) = 32767 ∧ ssub 5 7 = -2

/-- R119, of the result. -/
def Obligations.SabsSaturates : Prop :=
  encode .sabs = .p 0b0110#4 ∧
  (∀ a : Sample, (sabs a).toInt = min 32767 |a.toInt| ∧ 0 ≤ (sabs a).toInt) ∧
  sabs (-32768) = 32767 ∧ sabs (-32767) = 32767 ∧ sabs 0 = 0 ∧ sabs (-5) = 5

/-- R120, of the result for operands 0 to 32767, whatever the free values are. -/
def Obligations.UminTakesSmaller : Prop :=
  encode .umin = .p 0b0111#4 ∧
  (∀ (k : Nat) (a b : Sample), a.toNat ≤ 32767 → b.toNat ≤ 32767 →
    umin k a b = (if a.toNat ≤ b.toNat then a else b) ∧ umin k a b = umin k b a) ∧
  (∀ (k : Nat) (a : Sample), a.toNat ≤ 32767 → umin k a a = a) ∧
  (∀ (k : Nat) (a b c : Sample), a.toNat ≤ 32767 → b.toNat ≤ 32767 → c.toNat ≤ 32767 →
    umin k (umin k a b) c = umin k a (umin k b c)) ∧
  (∀ k : Nat, umin k 7 3 = 3)

/-- R121, of the result for a non-negative `ACC`, with `B` = 100 in the examples. -/
def Obligations.AmeanDividesAndClamps : Prop :=
  encode .amean = .p 0b1000#4 ∧
  (∀ (k b : Nat) (acc : Acc), 0 < b → 0 ≤ acc.toInt →
    ((amean k b acc).toNat : Int) = min (acc.toInt / b) 262143) ∧
  (∀ k : Nat, amean k 100 0 = 0 ∧ amean k 100 99 = 0 ∧ amean k 100 100 = 1 ∧ amean k 100 26214399 = 262143 ∧
    amean k 100 26214400 = 262143 ∧ amean k 100 107374182400 = 262143 ∧ amean k 100 123456 = 1234)

/-- Every primitive, driven alone, completes in every legal state, for all operands, and writes nothing but its destination;
that operands and results stand in `opA`, `opB`, `resS`, `resM` is the model's choice (log 8), and so is that `UMIN` and
`AMEAN` give a free value where R120 and R121 state none (log 14, log 15). -/
def Obligations.PrimitivesComplete : Prop :=
  ∀ s : State, legal s →
    exec .aclr s = .next { s with acc := 0 } ∧
    exec .macc s = .next { s with acc := macc s.acc s.opA s.opB } ∧
    exec .ascl s = .next { s with resS := ascl s.acc } ∧
    exec .qmul s = .next { s with resS := qmul s.opA s.opB } ∧
    exec .sadd s = .next { s with resS := sadd s.opA s.opB } ∧
    exec .ssub s = .next { s with resS := ssub s.opA s.opB } ∧
    exec .sabs s = .next { s with resS := sabs s.opA } ∧
    exec .umin s = .next { s with resS := umin s.tick s.opA s.opB } ∧
    exec .amean s = .next { s with resM := amean s.tick s.cfg.block s.acc }

/-- R122, R133: the dot product is one rounding and one clamp of the sum that the accumulator forms; below 512 terms no
larger than `2^30` no accumulation saturates, so that sum is exact. -/
def Obligations.DotProductIsExactSum : Prop :=
  (∀ (n : Nat) (c d : List Sample), c.length = n → n ≤ d.length →
    (maccAll 0 c d).toInt = accSum n (fun i => raw c i * raw d i) ∧
    (dot c d).toInt = clip (scale (accSum n fun i => raw c i * raw d i))) ∧
  (∀ (n : Nat) (f : Nat → Int), n < 512 → (∀ i < n, |f i| ≤ 2 ^ 30) → accSum n f = ∑ i ∈ Finset.range n, f i) ∧
  (∀ (n : Nat) (c d : List Sample), n < 512 → c.length = n → n ≤ d.length →
    (maccAll 0 c d).toInt = ∑ i ∈ Finset.range n, raw c i * raw d i ∧
    (dot c d).toInt = clip (scale (∑ i ∈ Finset.range n, raw c i * raw d i)))

/-! Events. -/

/-- R186. -/
def Obligations.EvnoneChangesNothing : Prop :=
  encode .evnone = .e 0b00#2 ∧ ∀ s : State, legal s → exec .evnone s = .next s

/-- R183: in every phase. -/
def Obligations.EvmuStepsMuAndRaisesRestart : Prop :=
  encode .evmu = .e 0b01#2 ∧
  (∀ s : State, legal s → exec .evmu s = .next { s with mu := BitVec.ofNat 16 (stair s.mu.toNat), restart := true }) ∧
  (∀ s t : State, legal s → exec .evmu s = .next t → s.mu = 28000 ∨ s.mu = 0 → t.mu = s.mu ∧ t.restart = true) ∧
  stair 5000 = 28000

/-- R184: in every phase. -/
def Obligations.EvpowStepsPowerAndRaisesRestart : Prop :=
  encode .evpow = .e 0b10#2 ∧
  (∀ s : State, legal s →
    exec .evpow s = .next { s with power := BitVec.ofNat 16 (stair s.power.toNat), restart := true }) ∧
  (∀ s t : State, legal s → exec .evpow s = .next t → s.power = 28000 ∨ s.power = 0 →
    t.power = s.power ∧ t.restart = true) ∧
  stair 13000 = 16000

/-- R185: the two channels step together, and the order of the two events does not matter. -/
def Obligations.EvbothIsBothEventsInEitherOrder : Prop :=
  encode .evboth = .e 0b11#2 ∧
  (∀ s : State, legal s →
    exec .evboth s = .next { s with
      mu := BitVec.ofNat 16 (stair s.mu.toNat), power := BitVec.ofNat 16 (stair s.power.toNat), restart := true } ∧
    andThen (exec .evmu s) (exec .evpow) = exec .evboth s ∧
    andThen (exec .evpow s) (exec .evmu) = exec .evboth s) ∧
  stair 500 = 5000 ∧ stair 28000 = 28000

/-- R180. -/
def Obligations.StaircaseRule : Prop :=
  (∀ v : Nat, v < 10000 → stair v = min (v * 10) 28000) ∧
  (∀ v : Nat, 10000 ≤ v → v ≤ 28000 → stair v = min (v + 3000) 28000) ∧
  [0, 1, 999, 1000, 2800, 2801, 5000, 9999, 10000, 10001, 24999, 25000, 25001, 27999, 28000].map stair =
    [0, 10, 9990, 10000, 28000, 28000, 28000, 28000, 13000, 13001, 27999, 28000, 28000, 28000, 28000]

/-- R181 (a) to (c). -/
def Obligations.StaircaseRisesToCeiling : Prop :=
  (∀ v : Nat, v ≤ 28000 → v ≤ stair v ∧ stair v ≤ 28000 ∧ (stair v = v ↔ v = 0 ∨ v = 28000)) ∧
  (∀ v : Nat, 1 ≤ v → v ≤ 28000 → stair^[10] v = 28000) ∧
  stair^[9] 1 = 25000

/-- R181 (d), R266: a step that is no reset lowers neither parameter. -/
def Obligations.OnlyResetLowersParameters : Prop :=
  ∀ s t : State, resets (nextLine s) = false → step s = .next t →
    s.mu.toNat ≤ t.mu.toNat ∧ s.power.toNat ≤ t.power.toNat

/-! The sequencer. -/

/-- R217. That the hold is a step which changes nothing is the model's choice (log 10). -/
def Obligations.WaitGoesOnOrHolds : Prop :=
  ∀ s : State, legal s → s.ph = phWait →
    (s.restart = true → exec .wait s = .next { s with ph := phStart }) ∧
    (s.restart = false → exec .wait s = .next s)

/-- R218: every register `START` writes, and no other. -/
def Obligations.StartBeginsRun : Prop :=
  encode .start = .s 0b0001#4 ∧
  ∀ s : State, legal s → s.ph = phStart →
    exec .start s = .next { s with
      restart := false, muRun := s.mu, powerRun := s.power, w := s.cfg.wInit,
      dla := List.replicate (s.cfg.taps + s.cfg.block - 1) 0, dlp := List.replicate (s.cfg.taps + s.cfg.block - 1) 0,
      frame := 0, dist := 32767, conv := false, ph := phGen }

/-- R219. -/
def Obligations.NextfCountsFrame : Prop :=
  encode .nextf = .s 0b0111#4 ∧
  ∀ s : State, legal s → s.ph = phNextf →
    ∃ f : BitVec 14, f.toNat = s.frame.toNat + 1 ∧ s.frame.toNat + 1 ≤ s.cfg.numFrames ∧
      (s.frame.toNat + 1 = s.cfg.numFrames → exec .nextf s = .next { s with frame := f, txidx := 0, ph := phTxc }) ∧
      (s.frame.toNat + 1 < s.cfg.numFrames → exec .nextf s = .next { s with frame := f, ph := phGen })

/-- R156: the three shifts on 32-bit patterns, and that the step is a bijection fixing 0 only at 0. -/
def Obligations.GeneratorStepIsBijective : Prop :=
  (∀ g : GenWord, (prns g).toNat =
    let a := g.toNat ^^^ (g.toNat <<< 13 % 2 ^ 32)
    let b := a ^^^ (a >>> 17)
    b ^^^ (b <<< 5 % 2 ^ 32)) ∧
  Function.Bijective prns ∧ (∀ g : GenWord, prns g = 0 ↔ g = 0) ∧
  prns 0x00000001 = 0x00042021 ∧ prns 0x00042021 = 0x04080601 ∧ prns 0x04080601 = 0x9DCCA8C5 ∧
  prns 0x9DCCA8C5 = 0x1255994F ∧ prns 0x12345678 = 0x87985AA5 ∧ prns 0x87985AA5 = 0x155B24A3 ∧
  prns 0x155B24A3 = 0x4820F4C4 ∧ prns 0x4820F4C4 = 0x81B3AC98

/-- R157, R158: sample `n` is the scaled upper half of the generator word after `n + 1` steps; exactly `B` steps are taken. -/
def Obligations.GenFillsBlock : Prop :=
  encode .gen = .s 0b0010#4 ∧
  (∀ s : State, legal s → s.ph = phGen →
    exec .gen s = .next { s with
      prng := prns^[s.cfg.block] s.prng
      xb := (List.range s.cfg.block).map fun n =>
        ofRaw (clip (scale (((prns^[n + 1] s.prng).extractLsb' 16 16).toInt * s.powerRun.toInt)))
      ph := phPlant }) ∧
  (genRun 5000 8 0x12345678).out = [-4703, 834, 2817, -4934, 4384, 1627, -4618, -2301]

/-- R159: no input sample is larger than the latched power. -/
def Obligations.InputBoundedByPower : Prop :=
  ∀ s : State, legal s → s.ph = phGen → s.powerRun.toNat ≤ 28000 →
    ∃ t, exec .gen s = .next t ∧ ∀ x ∈ t.xb, |x.toInt| ≤ s.powerRun.toNat

/-- R132, R134, R135: the plant's block is the rounded and clamped convolution with `H`, the line has slid by the block, and
nothing else but `ACC` and `PH` changes. The sums are exact below 512 taps, as on the hardware (R122). That the register `ACC`
holds the last sample's sum afterwards is the model's choice (log 19), and so are the sizes of test instances (log 13). -/
def Obligations.PlantIsFirResponse : Prop :=
  encode .plant = .s 0b0011#4 ∧
  ∀ s : State, legal s → s.ph = phPlant →
    ∃ a : Acc,
      let p := fun n => accSum s.cfg.taps fun i => raw s.cfg.hCoef i * tapSample s.xb s.dlp n i
      (s.cfg.taps < 512 → ∀ n < s.cfg.block,
        p n = ∑ i ∈ Finset.range s.cfg.taps, raw s.cfg.hCoef i * tapSample s.xb s.dlp n i) ∧
      a.toInt = p (s.cfg.block - 1) ∧
      exec .plant s = .next { s with
        dlp := (s.xb.reverse ++ s.dlp).take (s.cfg.taps + s.cfg.block - 1)
        db := (List.range s.cfg.block).map fun n => ofRaw (clip (scale (p n)))
        acc := a
        ph := phAdapt }

/-- R141, R142, R144: the block operation is the LMS recurrence, sample by sample, with the taps updated in place. The
recurrence determines `W` on the taps and samples it speaks of. The sums are exact below 512 taps, as on the hardware (R122).
That the register `ACC` holds the last sample's sum afterwards is the model's choice (log 19), and so are the sizes of test
instances (log 13). -/
def Obligations.AdaptIsLmsRecurrence : Prop :=
  encode .adapt = .s 0b0100#4 ∧
  ∀ s : State, legal s → s.ph = phAdapt →
    ∃ (W : Nat → Nat → Int) (a : Acc),
      let x := fun n i => tapSample s.xb s.dla n i
      let p := fun n => accSum s.cfg.taps fun i => W n i * x n i
      let y := fun n => clip (scale (p n))
      let e := fun n => clip (raw s.db n - y n)
      let alpha := fun n => clip (scale (s.muRun.toInt * e n))
      (∀ i < s.cfg.taps, W 0 i = raw s.w i) ∧
      (∀ n < s.cfg.block, ∀ i < s.cfg.taps, W (n + 1) i = clip (W n i + clip (scale (alpha n * x n i)))) ∧
      (s.cfg.taps < 512 → ∀ n < s.cfg.block, p n = ∑ i ∈ Finset.range s.cfg.taps, W n i * x n i) ∧
      a.toInt = p (s.cfg.block - 1) ∧
      exec .adapt s = .next { s with
        w := (List.range s.cfg.taps).map fun i => ofRaw (W s.cfg.block i)
        dla := (s.xb.reverse ++ s.dla).take (s.cfg.taps + s.cfg.block - 1)
        yb := (List.range s.cfg.block).map fun n => ofRaw (y n)
        eb := (List.range s.cfg.block).map fun n => ofRaw (e n)
        acc := a
        ph := phMse }

/-- R146 for one block: with `MU_RUN = 0` no coefficient changes, whatever the input. -/
def Obligations.ZeroMuKeepsCoefficients : Prop :=
  ∀ s : State, legal s → s.ph = phAdapt → s.muRun = 0 → ∃ t, exec .adapt s = .next t ∧ t.w = s.w

/-- R145 for one block: with an all-zero input on a cleared line no coefficient changes. -/
def Obligations.ZeroInputKeepsCoefficients : Prop :=
  ∀ s : State, legal s → s.ph = phAdapt → (∀ x ∈ s.xb, x = 0) → (∀ x ∈ s.dla, x = 0) →
    ∃ t, exec .adapt s = .next t ∧ t.w = s.w ∧ ∀ x ∈ t.dla, x = 0

/-- R147 for one frame: with the plant's coefficients and equal lines the error is exactly 0, nothing adapts, and the engine
reports a distance of 0. -/
def Obligations.ConvergedFilterStaysConverged : Prop :=
  ∀ s : State, legal s → s.ph = phPlant → s.w = s.cfg.hCoef → s.dla = s.dlp →
    ∃ t, andThen (andThen (andThen (exec .plant s) (exec .adapt)) (exec .mse)) (exec .dist) = .next t ∧
      t.w = s.cfg.hCoef ∧ t.yb = t.db ∧ (∀ e ∈ t.eb, e = 0) ∧ t.et = s.et.set s.frame.toNat 0 ∧ t.dist = 0 ∧
      (t.conv = true ↔ 0 < s.cfg.distThreshold) ∧ t.dla = t.dlp ∧ t.ph = phNextf

/-- R29: `PLANT` and `ADAPT` keep the two delay lines equal. -/
def Obligations.DelayLinesStayEqual : Prop :=
  ∀ s : State, legal s → s.ph = phPlant → s.dla = s.dlp →
    ∃ t, andThen (exec .plant s) (exec .adapt) = .next t ∧ t.dla = t.dlp

/-- R166. The sum is exact below 512 samples, as on the hardware (R122). That the register `ACC` holds the sum afterwards is
the model's choice (log 19), and so are the sizes of test instances (log 13). -/
def Obligations.MseStoresClampedMean : Prop :=
  encode .mse = .s 0b0101#4 ∧
  ∀ s : State, legal s → s.ph = phMse →
    ∃ (a : Acc) (m : ErrVal),
      a.toInt = accSum s.cfg.block (fun n => raw s.eb n ^ 2) ∧
      (s.cfg.block < 512 → a.toInt = ∑ n ∈ Finset.range s.cfg.block, raw s.eb n ^ 2) ∧
      (m.toNat : Int) = min (a.toInt / s.cfg.block) 262143 ∧
      exec .mse s = .next { s with acc := a, et := s.et.set s.frame.toNat m, ph := phDist }

/-- R170, R171: the smallest tap distance, at most 32767, and the flag. -/
def Obligations.DistIsSmallestTapDistance : Prop :=
  encode .dist = .s 0b0110#4 ∧
  ∀ s : State, legal s → s.ph = phDist →
    ∃ d : Sample,
      exec .dist s = .next { s with dist := d, conv := decide (d.toNat < s.cfg.distThreshold), ph := phNextf } ∧
      d.toNat ≤ 32767 ∧
      (∀ i < s.cfg.taps, (d.toNat : Int) ≤ |raw s.cfg.hCoef i - raw s.w i|) ∧
      (d.toNat = 32767 ∨ ∃ i < s.cfg.taps, (d.toNat : Int) = |raw s.cfg.hCoef i - raw s.w i|)

/-! Telemetry. -/

/-- R202: one byte in a step with the transport ready, none otherwise. That a hold is a step which changes nothing is the
model's choice (log 10), and so is where the port's level stands (log 9). -/
def Obligations.TxcSendsOneByte : Prop :=
  ∀ s : State, legal s → s.ph = phTxc →
    (s.txReady = false → exec .txc s = .next s) ∧
    (s.txReady = true → s.txidx.toNat + 1 < 4 * s.cfg.taps →
      ∃ k : BitVec 15, k.toNat = s.txidx.toNat + 1 ∧
        exec .txc s = .next { s with
          txs := s.txs ++ [(s.coefByte s.txidx.toNat, false)], wire := s.wire ++ [s.coefByte s.txidx.toNat],
          txidx := k }) ∧
    (s.txReady = true → s.txidx.toNat + 1 = 4 * s.cfg.taps →
      exec .txc s = .next { s with
        txs := s.txs ++ [(s.coefByte s.txidx.toNat, true)], wire := s.wire ++ [s.coefByte s.txidx.toNat],
        txidx := 0, ph := if s.cfg.errTraceEn then phTxe else phWait })

/-- R204, as for R202. -/
def Obligations.TxeSendsOneByte : Prop :=
  ∀ s : State, legal s → s.ph = phTxe →
    (s.txReady = false → exec .txe s = .next s) ∧
    (s.txReady = true → s.txidx.toNat + 1 < 2 * s.cfg.numFrames →
      ∃ k : BitVec 15, k.toNat = s.txidx.toNat + 1 ∧
        exec .txe s = .next { s with
          txs := s.txs ++ [(s.errByte s.txidx.toNat, false)], wire := s.wire ++ [s.errByte s.txidx.toNat],
          txidx := k }) ∧
    (s.txReady = true → s.txidx.toNat + 1 = 2 * s.cfg.numFrames →
      exec .txe s = .next { s with
        txs := s.txs ++ [(s.errByte s.txidx.toNat, true)], wire := s.wire ++ [s.errByte s.txidx.toNat],
        txidx := 0, ph := phWait })

/-- R66, R86, R196: what stands at each offset of the coefficient frame. -/
def Obligations.CoefficientBytesAtTheirOffsets : Prop :=
  ∀ s : State, legal s → ∀ i < s.cfg.taps,
    (s.coefByte (2 * i)).toNat = (s.w.getD i 0).toNat % 256 ∧
    (s.coefByte (2 * i + 1)).toNat = (s.w.getD i 0).toNat / 256 ∧
    (s.coefByte (2 * s.cfg.taps + 2 * i)).toNat = (s.cfg.hCoef.getD i 0).toNat % 256 ∧
    (s.coefByte (2 * s.cfg.taps + 2 * i + 1)).toNat = (s.cfg.hCoef.getD i 0).toNat / 256

/-- R197, R205: the receiver recovers both coefficient vectors bit-exact from the frame. -/
def Obligations.CoefficientFrameRoundTrips : Prop :=
  ∀ s : State, legal s → s.coefFrame.length = 4 * s.cfg.taps ∧ readPairs s.coefFrame = s.w ++ s.cfg.hCoef

/-- R84, R199, R200, R205: the receiver recovers the error trace less its two low bits. -/
def Obligations.ErrorFrameLosesTwoBits : Prop :=
  ∀ s : State, legal s → s.errFrame.length = 2 * s.cfg.numFrames ∧
    (readPairs s.errFrame).map BitVec.toNat = s.et.map fun m => m.toNat / 4

/-- R197, R202, R203, R208: `4 N` ready steps from the start of `TXC` emit exactly the coefficient frame of the state they
start in, its last byte marked, and go on to `TXE` or `WAIT`; they change nothing else. The schedule, the counter and where the
port's level stands are the model's own (log 5, log 7, log 9). -/
def Obligations.CoefficientFrameIsSentWhole : Prop :=
  ∀ (s : State) (rest : List Line), legal s → s.ph = phTxc → s.txidx = 0 →
    s.sched = rep (4 * s.cfg.taps) [.seq phTxc] ++ rest →
    Host.Core.run core (4 * s.cfg.taps) s = Host.Outcome.next { s with
      txs := s.txs ++ markLast s.coefFrame, wire := s.wire ++ s.coefFrame, txidx := 0,
      ph := if s.cfg.errTraceEn then phTxe else phWait,
      txReady := true, sched := rest, tick := s.tick + 4 * s.cfg.taps }

/-- R200, R203, R204, R208: the same of the error-trace frame (log 5, log 7, log 9). -/
def Obligations.ErrorFrameIsSentWhole : Prop :=
  ∀ (s : State) (rest : List Line), legal s → s.ph = phTxe → s.txidx = 0 →
    s.sched = rep (2 * s.cfg.numFrames) [.seq phTxe] ++ rest →
    Host.Core.run core (2 * s.cfg.numFrames) s = Host.Outcome.next { s with
      txs := s.txs ++ markLast s.errFrame, wire := s.wire ++ s.errFrame, txidx := 0, ph := phWait,
      txReady := true, sched := rest, tick := s.tick + 2 * s.cfg.numFrames }

/-! The whole machine. -/

/-- A line that names a coded operation runs that operation, in the state with the line taken off and the counter moved on.
The schedule and the counter are the model's own (log 5, log 7), and so is the third clause: the spec has no line and no agent
that runs a primitive alone (log 8). -/
def Obligations.StepRunsDecodedOperation : Prop :=
  ∀ (s : State) (rest : List Line) (i : Instr),
    (s.sched = .seq s.ph :: rest → decode (.s s.ph) = .ok i → (s.ph = phWait → s.restart = true) →
      step s = exec i { s with sched := rest, tick := s.tick + 1, txReady := true }) ∧
    (∀ ev, s.sched = .ev ev :: rest → decode (.e ev) = .ok i →
      step s = exec i { s with sched := rest, tick := s.tick + 1 }) ∧
    (∀ fn a b, s.sched = .prim fn a b :: rest → decode (.p fn) = .ok i →
      step s = exec i { s with sched := rest, tick := s.tick + 1, opA := a, opB := b })

/-- R76, R77, R245: a clocked step without reset in which the sequencer takes its step is that operation followed by the event
on the ports; a byte moves in every one with `tx_valid = 1` and `tx_ready = 1`. Any other is the event step alone, or no event.
With `START` the latches take the values before the event and `RESTART` ends as 1. The bit that schedules the sequencer is the
model's (log 17), and so are the schedule, the counter and where the port's level stands (log 5, log 7, log 9). -/
def Obligations.ClockedEventComesAfterOperation : Prop :=
  (∀ (s : State) (rest : List Line) (inp : StepInput) (i j : Instr),
    s.sched = .clock inp :: rest → inp.rst = false →
    inp.seq = true ∨ ((s.ph = phTxc ∨ s.ph = phTxe) ∧ inp.txReady = true) → decode (.s s.ph) = .ok i →
    decode (.e (BitVec.ofBool inp.evPow ++ BitVec.ofBool inp.evMu)) = .ok j →
    step s = andThen (exec i { s with sched := rest, tick := s.tick + 1, txReady := inp.txReady }) (exec j)) ∧
  (∀ (s : State) (rest : List Line) (inp : StepInput) (j : Instr),
    s.sched = .clock inp :: rest → inp.rst = false →
    inp.seq = false → (s.ph = phTxc ∨ s.ph = phTxe → inp.txReady = false) →
    decode (.e (BitVec.ofBool inp.evPow ++ BitVec.ofBool inp.evMu)) = .ok j →
    step s = exec j { s with sched := rest, tick := s.tick + 1, txReady := inp.txReady }) ∧
  (∀ (s : State) (rest : List Line) (ready : Bool), legal s → s.ph = phStart →
    s.sched = .clock ⟨false, true, false, ready, true⟩ :: rest →
    ∃ t, step s = .next t ∧ t.muRun = s.mu ∧ t.powerRun = s.power ∧ t.mu.toNat = stair s.mu.toNat ∧
      t.power = s.power ∧ t.restart = true ∧ t.ph = phGen)

/-- R48: every step keeps the invariant, from every state that has it, and no step changes a parameter (R10). -/
def Obligations.StepKeepsInvariant : Prop :=
  ∀ s t : State, s.Inv → step s = .next t → t.Inv ∧ t.cfg = s.cfg

/-- R48, R49: reset leaves a state with the invariant, for every legal configuration; `State.reset` is one of them. -/
def Obligations.ResetHasInvariant : Prop :=
  (∀ (c : Config) (k : Nat) (ls : List Line) (bs : List Byte), configLegal c → (State.resetWith c k ls bs).Inv) ∧
  State.reset.Inv

/-- R49, R245, R265, R267: a reset step leaves the values R49 gives, in every state, whatever the other ports show; the bytes
handed over stay handed over. The unspecified elements have their lengths; their values are free (log 3). -/
def Obligations.ResetStepLeavesResetValues : Prop :=
  ∀ (s : State) (l : Line) (rest : List Line), configLegal s.cfg → s.sched = l :: rest → resets l = true →
    ∃ t, step s = .next t ∧
      t.mu.toNat = s.cfg.muMin ∧ t.power.toNat = s.cfg.powerMin ∧ t.restart = true ∧
      t.cfg = s.cfg ∧ t.w = s.cfg.wInit ∧ t.dlp = List.replicate (s.cfg.taps + s.cfg.block - 1) 0 ∧ t.dla = t.dlp ∧
      t.acc = 0 ∧ t.prng = s.cfg.prngSeed ∧ t.dist = 32767 ∧ t.conv = false ∧ t.frame = 0 ∧ t.txidx = 0 ∧
      t.ph = phWait ∧ t.txs = [] ∧ t.wire = s.wire ∧ t.sched = rest ∧ storeLengths t

/-- R50, U1: the elements that reset leaves without a value (free values in the model, log 3) are never read before they are
written: whatever they hold, the machine takes the same steps, emits the same bytes and leaves the same state in everything
written. -/
def Obligations.UnwrittenElementsNeverMatter : Prop :=
  (∀ (c : Config) (k : Nat) (ls : List Line) (bs : List Byte) (m p : Sample) (x d y e : List Sample) (et : List ErrVal),
    x.length = c.block → d.length = c.block → y.length = c.block → e.length = c.block → et.length = c.numFrames →
    AgreeWhereWritten (State.resetWith c k ls bs) { State.resetWith c k ls bs with
      muRun := m, powerRun := p, xb := x, db := d, yb := y, eb := e, et := et }) ∧
  (∀ s s' t : State, AgreeWhereWritten s s' → step s = .next t →
    ∃ t', step s' = .next t' ∧ AgreeWhereWritten t t' ∧ t'.txs = t.txs ∧ t'.w = t.w ∧ t'.dist = t.dist ∧ t'.conv = t.conv)

/-- R242: from a state with the invariant every agent step that the spec lets happen completes: a reset, an event, a clocked
step, a `SEQ` line that names the phase (with `RESTART = 1` for `WAIT`). The model adds a primitive run alone, when its code is
not reserved (log 8), and a clocked hold that is a step (log 10). -/
def Obligations.WellFormedStepsComplete : Prop :=
  ∀ s : State, s.Inv →
    (∀ p, nextLine s = .seq p → p = s.ph ∧ (s.ph = phWait → s.restart = true)) →
    (∀ fn a b, nextLine s = .prim fn a b → fn.toNat ≤ 8) →
    ∃ t, step s = .next t ∧ t.Inv

/-- R104, R252: a reserved phase gives no operation a step; the sequencer's step is a fault. -/
def Obligations.ReservedPhaseFaults : Prop :=
  ∀ s : State, configLegal s.cfg → storeLengths s → 10 ≤ s.ph.toNat →
    (∀ i : Instr, exec i s = .fault .reservedPhase) ∧
    (∀ p rest, s.sched = .seq p :: rest → step s = .fault .reservedPhase)

/-- R242: each reason for which a configuration or state is refused, by every operation. The order of the checks is the model's
choice (log 12), and so is that a test instance with no tap, no sample or no frame, or of a size that `FRAME` or `TXIDX` cannot
count to, is a bad parameter (log 13). -/
def Obligations.IllFormedConfigurationRefused : Prop :=
  ∀ (i : Instr) (s : State),
    (s.cfg.postShift ≠ 0 → exec i s = .refused .badPostShift) ∧
    (s.cfg.postShift = 0 → s.cfg.prngSeed = 0 → exec i s = .refused .badSeed) ∧
    (s.cfg.postShift = 0 → s.cfg.prngSeed ≠ 0 → ¬ configLengths s.cfg → exec i s = .refused .invalidLength) ∧
    (s.cfg.postShift = 0 → s.cfg.prngSeed ≠ 0 → configLengths s.cfg → ¬ configRanges s.cfg →
      exec i s = .refused .badParameter) ∧
    (configLegal s.cfg → ¬ storeLengths s → exec i s = .refused .invalidLength) ∧
    (configLegal s.cfg → storeLengths s → phaseLegal s → ¬ stateBounds s → exec i s = .refused .badState)

/-- R106: a `SEQ` line that names another phase, or `SEQ WAIT` with `RESTART = 0`, is ill-formed. That the model refuses such a
line is its choice (log 18), and so is that it reports this before a refused configuration or a broken bound (log 12). -/
def Obligations.SeqLineMustNamePhase : Prop :=
  ∀ (s : State) (p : BitVec 4) (rest : List Line), phaseLegal s → s.sched = .seq p :: rest →
    (p ≠ s.ph ∨ (s.ph = phWait ∧ s.restart = false)) → step s = .refused .illFormedSchedule

/-- R216: the transition table and its counters, `FRAME` and `TXIDX`. That a hold is a step which changes neither phase nor
counter is the model's choice (log 10). -/
def Obligations.TransitionTable : Prop :=
  ∀ (s : State) (ready : Bool), legal s → ∃ t, seqStep ready s = .next t ∧
    (s.ph = phWait → t.ph = if s.restart then phStart else phWait) ∧
    (s.ph = phStart → t.ph = phGen ∧ t.frame = 0) ∧ (s.ph = phGen → t.ph = phPlant) ∧
    (s.ph = phPlant → t.ph = phAdapt) ∧ (s.ph = phAdapt → t.ph = phMse) ∧ (s.ph = phMse → t.ph = phDist) ∧
    (s.ph = phDist → t.ph = phNextf) ∧
    (s.ph = phNextf → t.frame.toNat = s.frame.toNat + 1 ∧
      t.ph = (if s.frame.toNat + 1 < s.cfg.numFrames then phGen else phTxc) ∧
      t.txidx = if s.frame.toNat + 1 < s.cfg.numFrames then s.txidx else 0) ∧
    (s.ph = phTxc →
      (ready = false → t.ph = phTxc ∧ t.txidx = s.txidx) ∧
      (ready = true → s.txidx.toNat < 4 * s.cfg.taps - 1 → t.ph = phTxc ∧ t.txidx.toNat = s.txidx.toNat + 1) ∧
      (ready = true → s.txidx.toNat = 4 * s.cfg.taps - 1 →
        t.ph = (if s.cfg.errTraceEn then phTxe else phWait) ∧ t.txidx = 0)) ∧
    (s.ph = phTxe →
      (ready = false → t.ph = phTxe ∧ t.txidx = s.txidx) ∧
      (ready = true → s.txidx.toNat < 2 * s.cfg.numFrames - 1 → t.ph = phTxe ∧ t.txidx.toNat = s.txidx.toNat + 1) ∧
      (ready = true → s.txidx.toNat = 2 * s.cfg.numFrames - 1 → t.ph = phWait ∧ t.txidx = 0)) ∧
    (s.ph ≠ phStart → s.ph ≠ phNextf → t.frame = s.frame) ∧
    (s.ph ≠ phNextf → s.ph ≠ phTxc → s.ph ≠ phTxe → t.txidx = s.txidx)

/-- R187: the latches the filters and the generator use are loaded by `START` only: no step that is no reset and does not run
`START` changes them, in whatever phase it is taken. -/
def Obligations.OnlyStartLoadsLatches : Prop :=
  ∀ s t : State, resets (nextLine s) = false → runsStart s = false → step s = .next t →
    t.muRun = s.muRun ∧ t.powerRun = s.powerRun

/-- R70: every event raises `RESTART` and steps its own parameters; a step that is no reset and does not run `START` keeps
`RESTART = 1` and lowers neither parameter, in whatever phase it is taken; so the event is still pending after any number of
such steps, and a `START` step then latches values at least as far up the staircase as the event left. -/
def Obligations.NoEventIsLost : Prop :=
  (∀ (s : State) (i : Instr), legal s → i = .evmu ∨ i = .evpow ∨ i = .evboth →
    ∃ t, exec i s = .next t ∧ legal t ∧ t.restart = true ∧
      t.mu.toNat = (if i = .evpow then s.mu.toNat else stair s.mu.toNat) ∧
      t.power.toNat = (if i = .evmu then s.power.toNat else stair s.power.toNat)) ∧
  (∀ s t : State, s.restart = true → resets (nextLine s) = false → runsStart s = false → step s = .next t →
    t.restart = true ∧ s.mu.toNat ≤ t.mu.toNat ∧ s.power.toNat ≤ t.power.toNat) ∧
  (∀ t u : State, legal t → t.restart = true → BeforeStart t u →
    u.restart = true ∧ t.mu.toNat ≤ u.mu.toNat ∧ t.power.toNat ≤ u.power.toNat ∧
    ∀ ready, u.ph = phStart →
      ∃ v, seqStep ready u = .next v ∧ t.mu.toNat ≤ v.muRun.toNat ∧ t.power.toNat ≤ v.powerRun.toNat)

/-- R69: in any phase but `WAIT` and `START`, an event and the sequencer's operation give the same state in either order. -/
def Obligations.EventsCommuteWithRunOperations : Prop :=
  ∀ (s : State) (ev : BitVec 2) (ready : Bool), legal s → s.ph ≠ phWait → s.ph ≠ phStart →
    andThen (exec (decodeEvent ev) s) (seqStep ready) = andThen (seqStep ready s) (exec (decodeEvent ev))

/-- R75: the output ports. R76, R203: a step of the sequencer, and a clocked step without reset, emits exactly the byte the
ports offer, when the transport is ready, and nothing at any other time; an event and a primitive emit nothing. -/
def Obligations.BytesLeaveThroughThePort : Prop :=
  (∀ s : State,
    (s.idle = true ↔ s.ph = phWait) ∧ s.convPort = s.conv ∧ (s.txValid = true ↔ s.ph = phTxc ∨ s.ph = phTxe) ∧
    (s.ph = phTxc → s.txData = s.coefByte s.txidx.toNat ∧ (s.txLast = true ↔ s.txidx.toNat + 1 = 4 * s.cfg.taps)) ∧
    (s.ph = phTxe → s.txData = s.errByte s.txidx.toNat ∧ (s.txLast = true ↔ s.txidx.toNat + 1 = 2 * s.cfg.numFrames))) ∧
  (∀ (s t : State) (ready : Bool), legal s → seqStep ready s = .next t →
    t.txs = s.txs ++ (if s.txValid = true ∧ ready = true then [(s.txData, s.txLast)] else []) ∧
    t.wire = s.wire ++ (if s.txValid = true ∧ ready = true then [s.txData] else [])) ∧
  (∀ (s t : State) (inp : StepInput), nextLine s = .clock inp → inp.rst = false → step s = .next t →
    t.txs = s.txs ++ (if s.txValid = true ∧ inp.txReady = true then [(s.txData, s.txLast)] else []) ∧
    t.wire = s.wire ++ (if s.txValid = true ∧ inp.txReady = true then [s.txData] else [])) ∧
  (∀ s t : State, (∃ ev, nextLine s = .ev ev) ∨ (∃ fn a b, nextLine s = .prim fn a b) → step s = .next t →
    t.txs = s.txs ∧ t.wire = s.wire)

/-- R227: the spec's sequencer has no step exactly in the final state and in a stall; in the model its step is one that changes
nothing but the port's level. That it is a step, and where the level stands, is the model's choice (log 10, log 9). -/
def Obligations.HoldsExactlyWhenWaitingOrStalled : Prop :=
  ∀ (s : State) (ready : Bool), legal s →
    (seqStep ready s = .next (s.withReady ready) ↔ s.Quiescent ∨ (s.txValid = true ∧ ready = false))

/-- R226: a run that no event and no reset falls into takes `2 + 6 NUMFRAMES + 4 N` steps, and `2 NUMFRAMES` more with the
error trace; it latches the parameters, steps the generator `NUMFRAMES * B` times, and emits the coefficient frame of the
state it ends in and, with `ERRTRACE_EN`, its error-trace frame. The schedule is the model's own (log 5). -/
def Obligations.RunSendsBothFrames : Prop :=
  ∀ (s : State) (rest : List Line), s.Inv → s.ph = phWait → s.restart = true → s.sched = runOps s.cfg ++ rest →
    (runOps s.cfg).length =
      2 + 6 * s.cfg.numFrames + 4 * s.cfg.taps + (if s.cfg.errTraceEn then 2 * s.cfg.numFrames else 0) ∧
    ∃ t : State, Host.Core.run core (runOps s.cfg).length s = Host.Outcome.next t ∧
      t.ph = phWait ∧ t.restart = false ∧ t.frame.toNat = s.cfg.numFrames ∧ t.sched = rest ∧
      t.mu = s.mu ∧ t.power = s.power ∧ t.muRun = s.mu ∧ t.powerRun = s.power ∧
      t.prng = prns^[s.cfg.numFrames * s.cfg.block] s.prng ∧
      t.txs = s.txs ++ markLast t.coefFrame ++ (if s.cfg.errTraceEn then markLast t.errFrame else [])
end

