-- ==== Sys2Proof/Laws/Launch.lean ====
section
/-! SUPPORT. What the guard does, said once: the meanings' lemmas cite these and never unfold it. -/

namespace Sys2Proof.Machine

theorem configProblem_eq_none_iff (c : Config) : configProblem c = none ↔ configLegal c := by
  unfold configProblem configLegal
  split_ifs <;> simp_all
  tauto

theorem guarded_of_legal {s : State} (h : legal s) (body : Result) : guarded s body = body := by
  obtain ⟨hc, hl, hp, hb⟩ := h
  unfold guarded
  rw [(configProblem_eq_none_iff s.cfg).2 hc]
  show ite _ _ _ = _
  rw [if_neg (not_not.2 hl), if_neg (not_not.2 hp), if_neg (not_not.2 hb)]

theorem guarded_reservedPhase {s : State} (hc : configLegal s.cfg) (hl : storeLengths s) (hp : ¬ phaseLegal s)
    (body : Result) : guarded s body = .fault .reservedPhase := by
  unfold guarded
  rw [(configProblem_eq_none_iff s.cfg).2 hc]
  show ite _ _ _ = _
  rw [if_neg (not_not.2 hl), if_pos hp]

/-- Everything the guard can answer `next` to. -/
theorem guarded_eq_next {s t : State} {body : Result} (h : guarded s body = .next t) :
    legal s ∧ body = .next t := by
  by_cases hc : configLegal s.cfg
  · by_cases hl : storeLengths s
    · by_cases hp : phaseLegal s
      · by_cases hb : stateBounds s
        · exact ⟨⟨hc, hl, hp, hb⟩, by rwa [guarded_of_legal ⟨hc, hl, hp, hb⟩] at h⟩
        · unfold guarded at h
          rw [(configProblem_eq_none_iff s.cfg).2 hc] at h
          change ite _ _ _ = _ at h
          rw [if_neg (not_not.2 hl), if_neg (not_not.2 hp), if_pos hb] at h
          cases h
      · rw [guarded_reservedPhase hc hl hp] at h
        cases h
    · unfold guarded at h
      rw [(configProblem_eq_none_iff s.cfg).2 hc] at h
      change ite _ _ _ = _ at h
      rw [if_pos hl] at h
      cases h
  · unfold guarded at h
    split at h
    · cases h
    · rename_i hn
      exact absurd ((configProblem_eq_none_iff _).1 hn) hc

theorem inPhase_of_legal {s : State} (h : legal s) {p : BitVec 4} (hp : s.ph = p) (body : Result) :
    inPhase s p body = body := by
  rw [inPhase, guarded_of_legal h, if_pos hp]

/-- Everything an S operation's precondition can answer `next` to. -/
theorem inPhase_eq_next {s t : State} {p : BitVec 4} {body : Result} (h : inPhase s p body = .next t) :
    legal s ∧ s.ph = p ∧ body = .next t := by
  obtain ⟨hl, h⟩ := guarded_eq_next h
  split_ifs at h with hp
  exact ⟨hl, hp, h⟩

/-- The sizes of every legal configuration, within what `FRAME` and `TXIDX` count to (R39, R40). -/
theorem configLegal_sizes {c : Config} (h : configLegal c) :
    (1 ≤ c.taps ∧ c.taps ≤ 8192) ∧ 1 ≤ c.block ∧ (1 ≤ c.numFrames ∧ c.numFrames < 16384) := by
  obtain ⟨-, -, -, hs, -⟩ := h
  rcases hs with ⟨-, h1, h2, h3, h4⟩ | ⟨-, h1, h2, h3, h4, h5⟩ <;> refine ⟨⟨?_, ?_⟩, ?_, ?_, ?_⟩ <;> omega

/-- A delay line is at least as long as the filter, and as the block. -/
theorem configLegal_lineLen {c : Config} (h : configLegal c) :
    c.lineLen = c.taps + c.block - 1 ∧ c.taps ≤ c.lineLen ∧ c.block ≤ c.lineLen := by
  obtain ⟨⟨h1, -⟩, h2, -⟩ := configLegal_sizes h
  simp only [Config.lineLen]
  refine ⟨trivial, ?_, ?_⟩ <;> omega

end Sys2Proof.Machine
end

