-- ==== Sys2Proof/Laws/Operands.lean ====
section
/-! SUPPORT. The arithmetic of the unit pushed down to integers: what `toInt` or `toNat` of each result is. -/

namespace Sys2Proof.Machine

theorem sat16_bounds (v : Int) : -32768 ≤ sat16 v ∧ sat16 v ≤ 32767 := by
  unfold sat16; split_ifs <;> omega

theorem sat16_of_bounds {v : Int} (h1 : -32768 ≤ v) (h2 : v ≤ 32767) : sat16 v = v := by
  unfold sat16; split_ifs <;> omega

theorem toInt_ofRaw {v : Int} (h1 : -32768 ≤ v) (h2 : v ≤ 32767) : (ofRaw v).toInt = v := by
  unfold ofRaw
  rw [BitVec.toInt_ofInt, Int.bmod_eq_of_le] <;> omega

theorem ofRaw_toInt (p : Sample) : ofRaw p.toInt = p := by
  unfold ofRaw; simp

theorem toInt_ofRaw_sat16 (v : Int) : (ofRaw (sat16 v)).toInt = sat16 v :=
  toInt_ofRaw (sat16_bounds v).1 (sat16_bounds v).2

theorem sample_bounds (p : Sample) : -32768 ≤ p.toInt ∧ p.toInt ≤ 32767 := by
  have h1 := BitVec.le_toInt p
  have h2 := BitVec.toInt_lt (x := p)
  constructor <;> norm_num at h1 h2 <;> omega

@[simp] theorem ascl_toInt (acc : Acc) : (ascl acc).toInt = sat16 (rnd15 acc.toInt) := toInt_ofRaw_sat16 _

@[simp] theorem qmul_toInt (a b : Sample) : (qmul a b).toInt = sat16 (rnd15 (a.toInt * b.toInt)) := toInt_ofRaw_sat16 _

@[simp] theorem sadd_toInt (a b : Sample) : (sadd a b).toInt = sat16 (a.toInt + b.toInt) := toInt_ofRaw_sat16 _

@[simp] theorem ssub_toInt (a b : Sample) : (ssub a b).toInt = sat16 (a.toInt - b.toInt) := toInt_ofRaw_sat16 _

@[simp] theorem sabs_toInt (a : Sample) : (sabs a).toInt = sat16 |a.toInt| := by
  rw [sabs, toInt_ofRaw_sat16]
  split_ifs with h
  · rw [abs_of_neg h]
  · rw [abs_of_nonneg (not_lt.1 h)]

@[simp] theorem qmul_zero_left (b : Sample) : qmul 0#16 b = 0#16 := by
  apply BitVec.eq_of_toInt_eq
  simp [rnd15, sat16]

@[simp] theorem qmul_zero_right (a : Sample) : qmul a 0#16 = 0#16 := by
  apply BitVec.eq_of_toInt_eq
  simp [rnd15, sat16]

@[simp] theorem sadd_zero (a : Sample) : sadd a 0#16 = a := by
  apply BitVec.eq_of_toInt_eq
  have := sample_bounds a
  rw [sadd_toInt]
  simpa using sat16_of_bounds this.1 this.2

@[simp] theorem ssub_self (a : Sample) : ssub a a = 0#16 := by
  apply BitVec.eq_of_toInt_eq
  simp [sat16]

/-- A sum inside the accumulator's range is exact (R114). -/
theorem macc_toInt {acc : Acc} {a b : Sample} (h1 : -549755813888 ≤ acc.toInt + a.toInt * b.toInt)
    (h2 : acc.toInt + a.toInt * b.toInt ≤ 549755813887) :
    (macc acc a b).toInt = acc.toInt + a.toInt * b.toInt := by
  have hs : satAcc (acc.toInt + a.toInt * b.toInt) = acc.toInt + a.toInt * b.toInt := by
    unfold satAcc; split_ifs <;> omega
  rw [macc, hs, BitVec.toInt_ofInt, Int.bmod_eq_of_le] <;> omega

/-- A product of two samples lies within `2^30` of zero (R114). -/
theorem product_bounds (a b : Sample) : -1073741824 ≤ a.toInt * b.toInt ∧ a.toInt * b.toInt ≤ 1073741824 := by
  have ha := sample_bounds a
  have hb := sample_bounds b
  constructor <;> nlinarith

/-- `STAIR` in numerals (R180). -/
theorem stair_eq (v : Nat) : stair v = min (if v < 10000 then v * 10 else v + 3000) 28000 := by
  simp only [stair, stairKnee, stairMul, stairAdd, paramMax]
  split_ifs <;> omega

theorem stair_le (v : Nat) : stair v ≤ 28000 := by
  rw [stair_eq]; exact min_le_right _ _

theorem le_stair {v : Nat} (h : v ≤ 28000) : v ≤ stair v := by
  rw [stair_eq]; split_ifs <;> omega

@[simp] theorem stairReg_toNat (v : Sample) : (stairReg v).toNat = stair v.toNat := by
  have := stair_le v.toNat
  simp only [stairReg, BitVec.toNat_ofNat]
  omega

end Sys2Proof.Machine
end

