-- ==== Sys2Proof/Laws/State.lean ====
section
/-! SUPPORT. For each update of the state that the meanings name, one lemma per field, true by rfl: no later proof unfolds an
update. `sendCoef`, `sendErr` and `countFrame` branch; their fields are in Laws/Blocks.lean. -/

namespace Sys2Proof.Machine

variable (s : State)

/-! `toPhase` -/

@[simp] theorem State.toPhase_mu (p : BitVec 4) : (s.toPhase p).mu = s.mu := rfl
@[simp] theorem State.toPhase_power (p : BitVec 4) : (s.toPhase p).power = s.power := rfl
@[simp] theorem State.toPhase_restart (p : BitVec 4) : (s.toPhase p).restart = s.restart := rfl
@[simp] theorem State.toPhase_muRun (p : BitVec 4) : (s.toPhase p).muRun = s.muRun := rfl
@[simp] theorem State.toPhase_powerRun (p : BitVec 4) : (s.toPhase p).powerRun = s.powerRun := rfl
@[simp] theorem State.toPhase_w (p : BitVec 4) : (s.toPhase p).w = s.w := rfl
@[simp] theorem State.toPhase_dlp (p : BitVec 4) : (s.toPhase p).dlp = s.dlp := rfl
@[simp] theorem State.toPhase_dla (p : BitVec 4) : (s.toPhase p).dla = s.dla := rfl
@[simp] theorem State.toPhase_xb (p : BitVec 4) : (s.toPhase p).xb = s.xb := rfl
@[simp] theorem State.toPhase_db (p : BitVec 4) : (s.toPhase p).db = s.db := rfl
@[simp] theorem State.toPhase_yb (p : BitVec 4) : (s.toPhase p).yb = s.yb := rfl
@[simp] theorem State.toPhase_eb (p : BitVec 4) : (s.toPhase p).eb = s.eb := rfl
@[simp] theorem State.toPhase_acc (p : BitVec 4) : (s.toPhase p).acc = s.acc := rfl
@[simp] theorem State.toPhase_prng (p : BitVec 4) : (s.toPhase p).prng = s.prng := rfl
@[simp] theorem State.toPhase_et (p : BitVec 4) : (s.toPhase p).et = s.et := rfl
@[simp] theorem State.toPhase_dist (p : BitVec 4) : (s.toPhase p).dist = s.dist := rfl
@[simp] theorem State.toPhase_conv (p : BitVec 4) : (s.toPhase p).conv = s.conv := rfl
@[simp] theorem State.toPhase_frame (p : BitVec 4) : (s.toPhase p).frame = s.frame := rfl
@[simp] theorem State.toPhase_txidx (p : BitVec 4) : (s.toPhase p).txidx = s.txidx := rfl
@[simp] theorem State.toPhase_ph (p : BitVec 4) : (s.toPhase p).ph = p := rfl
@[simp] theorem State.toPhase_txs (p : BitVec 4) : (s.toPhase p).txs = s.txs := rfl
@[simp] theorem State.toPhase_cfg (p : BitVec 4) : (s.toPhase p).cfg = s.cfg := rfl
@[simp] theorem State.toPhase_wire (p : BitVec 4) : (s.toPhase p).wire = s.wire := rfl
@[simp] theorem State.toPhase_txReady (p : BitVec 4) : (s.toPhase p).txReady = s.txReady := rfl
@[simp] theorem State.toPhase_opA (p : BitVec 4) : (s.toPhase p).opA = s.opA := rfl
@[simp] theorem State.toPhase_opB (p : BitVec 4) : (s.toPhase p).opB = s.opB := rfl
@[simp] theorem State.toPhase_resS (p : BitVec 4) : (s.toPhase p).resS = s.resS := rfl
@[simp] theorem State.toPhase_resM (p : BitVec 4) : (s.toPhase p).resM = s.resM := rfl
@[simp] theorem State.toPhase_sched (p : BitVec 4) : (s.toPhase p).sched = s.sched := rfl
@[simp] theorem State.toPhase_tick (p : BitVec 4) : (s.toPhase p).tick = s.tick := rfl
@[simp] theorem State.toPhase_h (p : BitVec 4) : (s.toPhase p).h = s.h := rfl

/-! `raiseRestart` -/

@[simp] theorem State.raiseRestart_mu : (s.raiseRestart).mu = s.mu := rfl
@[simp] theorem State.raiseRestart_power : (s.raiseRestart).power = s.power := rfl
@[simp] theorem State.raiseRestart_restart : (s.raiseRestart).restart = true := rfl
@[simp] theorem State.raiseRestart_muRun : (s.raiseRestart).muRun = s.muRun := rfl
@[simp] theorem State.raiseRestart_powerRun : (s.raiseRestart).powerRun = s.powerRun := rfl
@[simp] theorem State.raiseRestart_w : (s.raiseRestart).w = s.w := rfl
@[simp] theorem State.raiseRestart_dlp : (s.raiseRestart).dlp = s.dlp := rfl
@[simp] theorem State.raiseRestart_dla : (s.raiseRestart).dla = s.dla := rfl
@[simp] theorem State.raiseRestart_xb : (s.raiseRestart).xb = s.xb := rfl
@[simp] theorem State.raiseRestart_db : (s.raiseRestart).db = s.db := rfl
@[simp] theorem State.raiseRestart_yb : (s.raiseRestart).yb = s.yb := rfl
@[simp] theorem State.raiseRestart_eb : (s.raiseRestart).eb = s.eb := rfl
@[simp] theorem State.raiseRestart_acc : (s.raiseRestart).acc = s.acc := rfl
@[simp] theorem State.raiseRestart_prng : (s.raiseRestart).prng = s.prng := rfl
@[simp] theorem State.raiseRestart_et : (s.raiseRestart).et = s.et := rfl
@[simp] theorem State.raiseRestart_dist : (s.raiseRestart).dist = s.dist := rfl
@[simp] theorem State.raiseRestart_conv : (s.raiseRestart).conv = s.conv := rfl
@[simp] theorem State.raiseRestart_frame : (s.raiseRestart).frame = s.frame := rfl
@[simp] theorem State.raiseRestart_txidx : (s.raiseRestart).txidx = s.txidx := rfl
@[simp] theorem State.raiseRestart_ph : (s.raiseRestart).ph = s.ph := rfl
@[simp] theorem State.raiseRestart_txs : (s.raiseRestart).txs = s.txs := rfl
@[simp] theorem State.raiseRestart_cfg : (s.raiseRestart).cfg = s.cfg := rfl
@[simp] theorem State.raiseRestart_wire : (s.raiseRestart).wire = s.wire := rfl
@[simp] theorem State.raiseRestart_txReady : (s.raiseRestart).txReady = s.txReady := rfl
@[simp] theorem State.raiseRestart_opA : (s.raiseRestart).opA = s.opA := rfl
@[simp] theorem State.raiseRestart_opB : (s.raiseRestart).opB = s.opB := rfl
@[simp] theorem State.raiseRestart_resS : (s.raiseRestart).resS = s.resS := rfl
@[simp] theorem State.raiseRestart_resM : (s.raiseRestart).resM = s.resM := rfl
@[simp] theorem State.raiseRestart_sched : (s.raiseRestart).sched = s.sched := rfl
@[simp] theorem State.raiseRestart_tick : (s.raiseRestart).tick = s.tick := rfl
@[simp] theorem State.raiseRestart_h : (s.raiseRestart).h = s.h := rfl

/-! `clearFlags` -/

@[simp] theorem State.clearFlags_mu : (s.clearFlags).mu = s.mu := rfl
@[simp] theorem State.clearFlags_power : (s.clearFlags).power = s.power := rfl
@[simp] theorem State.clearFlags_restart : (s.clearFlags).restart = false := rfl
@[simp] theorem State.clearFlags_muRun : (s.clearFlags).muRun = s.muRun := rfl
@[simp] theorem State.clearFlags_powerRun : (s.clearFlags).powerRun = s.powerRun := rfl
@[simp] theorem State.clearFlags_w : (s.clearFlags).w = s.w := rfl
@[simp] theorem State.clearFlags_dlp : (s.clearFlags).dlp = s.dlp := rfl
@[simp] theorem State.clearFlags_dla : (s.clearFlags).dla = s.dla := rfl
@[simp] theorem State.clearFlags_xb : (s.clearFlags).xb = s.xb := rfl
@[simp] theorem State.clearFlags_db : (s.clearFlags).db = s.db := rfl
@[simp] theorem State.clearFlags_yb : (s.clearFlags).yb = s.yb := rfl
@[simp] theorem State.clearFlags_eb : (s.clearFlags).eb = s.eb := rfl
@[simp] theorem State.clearFlags_acc : (s.clearFlags).acc = s.acc := rfl
@[simp] theorem State.clearFlags_prng : (s.clearFlags).prng = s.prng := rfl
@[simp] theorem State.clearFlags_et : (s.clearFlags).et = s.et := rfl
@[simp] theorem State.clearFlags_dist : (s.clearFlags).dist = s.dist := rfl
@[simp] theorem State.clearFlags_conv : (s.clearFlags).conv = false := rfl
@[simp] theorem State.clearFlags_frame : (s.clearFlags).frame = s.frame := rfl
@[simp] theorem State.clearFlags_txidx : (s.clearFlags).txidx = s.txidx := rfl
@[simp] theorem State.clearFlags_ph : (s.clearFlags).ph = s.ph := rfl
@[simp] theorem State.clearFlags_txs : (s.clearFlags).txs = s.txs := rfl
@[simp] theorem State.clearFlags_cfg : (s.clearFlags).cfg = s.cfg := rfl
@[simp] theorem State.clearFlags_wire : (s.clearFlags).wire = s.wire := rfl
@[simp] theorem State.clearFlags_txReady : (s.clearFlags).txReady = s.txReady := rfl
@[simp] theorem State.clearFlags_opA : (s.clearFlags).opA = s.opA := rfl
@[simp] theorem State.clearFlags_opB : (s.clearFlags).opB = s.opB := rfl
@[simp] theorem State.clearFlags_resS : (s.clearFlags).resS = s.resS := rfl
@[simp] theorem State.clearFlags_resM : (s.clearFlags).resM = s.resM := rfl
@[simp] theorem State.clearFlags_sched : (s.clearFlags).sched = s.sched := rfl
@[simp] theorem State.clearFlags_tick : (s.clearFlags).tick = s.tick := rfl
@[simp] theorem State.clearFlags_h : (s.clearFlags).h = s.h := rfl

/-! `emit` -/

@[simp] theorem State.emit_mu (b : Byte) (l : Bool) : (s.emit b l).mu = s.mu := rfl
@[simp] theorem State.emit_power (b : Byte) (l : Bool) : (s.emit b l).power = s.power := rfl
@[simp] theorem State.emit_restart (b : Byte) (l : Bool) : (s.emit b l).restart = s.restart := rfl
@[simp] theorem State.emit_muRun (b : Byte) (l : Bool) : (s.emit b l).muRun = s.muRun := rfl
@[simp] theorem State.emit_powerRun (b : Byte) (l : Bool) : (s.emit b l).powerRun = s.powerRun := rfl
@[simp] theorem State.emit_w (b : Byte) (l : Bool) : (s.emit b l).w = s.w := rfl
@[simp] theorem State.emit_dlp (b : Byte) (l : Bool) : (s.emit b l).dlp = s.dlp := rfl
@[simp] theorem State.emit_dla (b : Byte) (l : Bool) : (s.emit b l).dla = s.dla := rfl
@[simp] theorem State.emit_xb (b : Byte) (l : Bool) : (s.emit b l).xb = s.xb := rfl
@[simp] theorem State.emit_db (b : Byte) (l : Bool) : (s.emit b l).db = s.db := rfl
@[simp] theorem State.emit_yb (b : Byte) (l : Bool) : (s.emit b l).yb = s.yb := rfl
@[simp] theorem State.emit_eb (b : Byte) (l : Bool) : (s.emit b l).eb = s.eb := rfl
@[simp] theorem State.emit_acc (b : Byte) (l : Bool) : (s.emit b l).acc = s.acc := rfl
@[simp] theorem State.emit_prng (b : Byte) (l : Bool) : (s.emit b l).prng = s.prng := rfl
@[simp] theorem State.emit_et (b : Byte) (l : Bool) : (s.emit b l).et = s.et := rfl
@[simp] theorem State.emit_dist (b : Byte) (l : Bool) : (s.emit b l).dist = s.dist := rfl
@[simp] theorem State.emit_conv (b : Byte) (l : Bool) : (s.emit b l).conv = s.conv := rfl
@[simp] theorem State.emit_frame (b : Byte) (l : Bool) : (s.emit b l).frame = s.frame := rfl
@[simp] theorem State.emit_txidx (b : Byte) (l : Bool) : (s.emit b l).txidx = s.txidx := rfl
@[simp] theorem State.emit_ph (b : Byte) (l : Bool) : (s.emit b l).ph = s.ph := rfl
@[simp] theorem State.emit_txs (b : Byte) (l : Bool) : (s.emit b l).txs = s.txs ++ [(b, l)] := rfl
@[simp] theorem State.emit_cfg (b : Byte) (l : Bool) : (s.emit b l).cfg = s.cfg := rfl
@[simp] theorem State.emit_wire (b : Byte) (l : Bool) : (s.emit b l).wire = s.wire ++ [b] := rfl
@[simp] theorem State.emit_txReady (b : Byte) (l : Bool) : (s.emit b l).txReady = s.txReady := rfl
@[simp] theorem State.emit_opA (b : Byte) (l : Bool) : (s.emit b l).opA = s.opA := rfl
@[simp] theorem State.emit_opB (b : Byte) (l : Bool) : (s.emit b l).opB = s.opB := rfl
@[simp] theorem State.emit_resS (b : Byte) (l : Bool) : (s.emit b l).resS = s.resS := rfl
@[simp] theorem State.emit_resM (b : Byte) (l : Bool) : (s.emit b l).resM = s.resM := rfl
@[simp] theorem State.emit_sched (b : Byte) (l : Bool) : (s.emit b l).sched = s.sched := rfl
@[simp] theorem State.emit_tick (b : Byte) (l : Bool) : (s.emit b l).tick = s.tick := rfl
@[simp] theorem State.emit_h (b : Byte) (l : Bool) : (s.emit b l).h = s.h := rfl

/-! `withOperands` -/

@[simp] theorem State.withOperands_mu (a b : Sample) : (s.withOperands a b).mu = s.mu := rfl
@[simp] theorem State.withOperands_power (a b : Sample) : (s.withOperands a b).power = s.power := rfl
@[simp] theorem State.withOperands_restart (a b : Sample) : (s.withOperands a b).restart = s.restart := rfl
@[simp] theorem State.withOperands_muRun (a b : Sample) : (s.withOperands a b).muRun = s.muRun := rfl
@[simp] theorem State.withOperands_powerRun (a b : Sample) : (s.withOperands a b).powerRun = s.powerRun := rfl
@[simp] theorem State.withOperands_w (a b : Sample) : (s.withOperands a b).w = s.w := rfl
@[simp] theorem State.withOperands_dlp (a b : Sample) : (s.withOperands a b).dlp = s.dlp := rfl
@[simp] theorem State.withOperands_dla (a b : Sample) : (s.withOperands a b).dla = s.dla := rfl
@[simp] theorem State.withOperands_xb (a b : Sample) : (s.withOperands a b).xb = s.xb := rfl
@[simp] theorem State.withOperands_db (a b : Sample) : (s.withOperands a b).db = s.db := rfl
@[simp] theorem State.withOperands_yb (a b : Sample) : (s.withOperands a b).yb = s.yb := rfl
@[simp] theorem State.withOperands_eb (a b : Sample) : (s.withOperands a b).eb = s.eb := rfl
@[simp] theorem State.withOperands_acc (a b : Sample) : (s.withOperands a b).acc = s.acc := rfl
@[simp] theorem State.withOperands_prng (a b : Sample) : (s.withOperands a b).prng = s.prng := rfl
@[simp] theorem State.withOperands_et (a b : Sample) : (s.withOperands a b).et = s.et := rfl
@[simp] theorem State.withOperands_dist (a b : Sample) : (s.withOperands a b).dist = s.dist := rfl
@[simp] theorem State.withOperands_conv (a b : Sample) : (s.withOperands a b).conv = s.conv := rfl
@[simp] theorem State.withOperands_frame (a b : Sample) : (s.withOperands a b).frame = s.frame := rfl
@[simp] theorem State.withOperands_txidx (a b : Sample) : (s.withOperands a b).txidx = s.txidx := rfl
@[simp] theorem State.withOperands_ph (a b : Sample) : (s.withOperands a b).ph = s.ph := rfl
@[simp] theorem State.withOperands_txs (a b : Sample) : (s.withOperands a b).txs = s.txs := rfl
@[simp] theorem State.withOperands_cfg (a b : Sample) : (s.withOperands a b).cfg = s.cfg := rfl
@[simp] theorem State.withOperands_wire (a b : Sample) : (s.withOperands a b).wire = s.wire := rfl
@[simp] theorem State.withOperands_txReady (a b : Sample) : (s.withOperands a b).txReady = s.txReady := rfl
@[simp] theorem State.withOperands_opA (a b : Sample) : (s.withOperands a b).opA = a := rfl
@[simp] theorem State.withOperands_opB (a b : Sample) : (s.withOperands a b).opB = b := rfl
@[simp] theorem State.withOperands_resS (a b : Sample) : (s.withOperands a b).resS = s.resS := rfl
@[simp] theorem State.withOperands_resM (a b : Sample) : (s.withOperands a b).resM = s.resM := rfl
@[simp] theorem State.withOperands_sched (a b : Sample) : (s.withOperands a b).sched = s.sched := rfl
@[simp] theorem State.withOperands_tick (a b : Sample) : (s.withOperands a b).tick = s.tick := rfl
@[simp] theorem State.withOperands_h (a b : Sample) : (s.withOperands a b).h = s.h := rfl

/-! `withReady` -/

@[simp] theorem State.withReady_mu (r : Bool) : (s.withReady r).mu = s.mu := rfl
@[simp] theorem State.withReady_power (r : Bool) : (s.withReady r).power = s.power := rfl
@[simp] theorem State.withReady_restart (r : Bool) : (s.withReady r).restart = s.restart := rfl
@[simp] theorem State.withReady_muRun (r : Bool) : (s.withReady r).muRun = s.muRun := rfl
@[simp] theorem State.withReady_powerRun (r : Bool) : (s.withReady r).powerRun = s.powerRun := rfl
@[simp] theorem State.withReady_w (r : Bool) : (s.withReady r).w = s.w := rfl
@[simp] theorem State.withReady_dlp (r : Bool) : (s.withReady r).dlp = s.dlp := rfl
@[simp] theorem State.withReady_dla (r : Bool) : (s.withReady r).dla = s.dla := rfl
@[simp] theorem State.withReady_xb (r : Bool) : (s.withReady r).xb = s.xb := rfl
@[simp] theorem State.withReady_db (r : Bool) : (s.withReady r).db = s.db := rfl
@[simp] theorem State.withReady_yb (r : Bool) : (s.withReady r).yb = s.yb := rfl
@[simp] theorem State.withReady_eb (r : Bool) : (s.withReady r).eb = s.eb := rfl
@[simp] theorem State.withReady_acc (r : Bool) : (s.withReady r).acc = s.acc := rfl
@[simp] theorem State.withReady_prng (r : Bool) : (s.withReady r).prng = s.prng := rfl
@[simp] theorem State.withReady_et (r : Bool) : (s.withReady r).et = s.et := rfl
@[simp] theorem State.withReady_dist (r : Bool) : (s.withReady r).dist = s.dist := rfl
@[simp] theorem State.withReady_conv (r : Bool) : (s.withReady r).conv = s.conv := rfl
@[simp] theorem State.withReady_frame (r : Bool) : (s.withReady r).frame = s.frame := rfl
@[simp] theorem State.withReady_txidx (r : Bool) : (s.withReady r).txidx = s.txidx := rfl
@[simp] theorem State.withReady_ph (r : Bool) : (s.withReady r).ph = s.ph := rfl
@[simp] theorem State.withReady_txs (r : Bool) : (s.withReady r).txs = s.txs := rfl
@[simp] theorem State.withReady_cfg (r : Bool) : (s.withReady r).cfg = s.cfg := rfl
@[simp] theorem State.withReady_wire (r : Bool) : (s.withReady r).wire = s.wire := rfl
@[simp] theorem State.withReady_txReady (r : Bool) : (s.withReady r).txReady = r := rfl
@[simp] theorem State.withReady_opA (r : Bool) : (s.withReady r).opA = s.opA := rfl
@[simp] theorem State.withReady_opB (r : Bool) : (s.withReady r).opB = s.opB := rfl
@[simp] theorem State.withReady_resS (r : Bool) : (s.withReady r).resS = s.resS := rfl
@[simp] theorem State.withReady_resM (r : Bool) : (s.withReady r).resM = s.resM := rfl
@[simp] theorem State.withReady_sched (r : Bool) : (s.withReady r).sched = s.sched := rfl
@[simp] theorem State.withReady_tick (r : Bool) : (s.withReady r).tick = s.tick := rfl
@[simp] theorem State.withReady_h (r : Bool) : (s.withReady r).h = s.h := rfl

/-! `stepMu` -/

@[simp] theorem State.stepMu_mu : (s.stepMu).mu = stairReg s.mu := rfl
@[simp] theorem State.stepMu_power : (s.stepMu).power = s.power := rfl
@[simp] theorem State.stepMu_restart : (s.stepMu).restart = s.restart := rfl
@[simp] theorem State.stepMu_muRun : (s.stepMu).muRun = s.muRun := rfl
@[simp] theorem State.stepMu_powerRun : (s.stepMu).powerRun = s.powerRun := rfl
@[simp] theorem State.stepMu_w : (s.stepMu).w = s.w := rfl
@[simp] theorem State.stepMu_dlp : (s.stepMu).dlp = s.dlp := rfl
@[simp] theorem State.stepMu_dla : (s.stepMu).dla = s.dla := rfl
@[simp] theorem State.stepMu_xb : (s.stepMu).xb = s.xb := rfl
@[simp] theorem State.stepMu_db : (s.stepMu).db = s.db := rfl
@[simp] theorem State.stepMu_yb : (s.stepMu).yb = s.yb := rfl
@[simp] theorem State.stepMu_eb : (s.stepMu).eb = s.eb := rfl
@[simp] theorem State.stepMu_acc : (s.stepMu).acc = s.acc := rfl
@[simp] theorem State.stepMu_prng : (s.stepMu).prng = s.prng := rfl
@[simp] theorem State.stepMu_et : (s.stepMu).et = s.et := rfl
@[simp] theorem State.stepMu_dist : (s.stepMu).dist = s.dist := rfl
@[simp] theorem State.stepMu_conv : (s.stepMu).conv = s.conv := rfl
@[simp] theorem State.stepMu_frame : (s.stepMu).frame = s.frame := rfl
@[simp] theorem State.stepMu_txidx : (s.stepMu).txidx = s.txidx := rfl
@[simp] theorem State.stepMu_ph : (s.stepMu).ph = s.ph := rfl
@[simp] theorem State.stepMu_txs : (s.stepMu).txs = s.txs := rfl
@[simp] theorem State.stepMu_cfg : (s.stepMu).cfg = s.cfg := rfl
@[simp] theorem State.stepMu_wire : (s.stepMu).wire = s.wire := rfl
@[simp] theorem State.stepMu_txReady : (s.stepMu).txReady = s.txReady := rfl
@[simp] theorem State.stepMu_opA : (s.stepMu).opA = s.opA := rfl
@[simp] theorem State.stepMu_opB : (s.stepMu).opB = s.opB := rfl
@[simp] theorem State.stepMu_resS : (s.stepMu).resS = s.resS := rfl
@[simp] theorem State.stepMu_resM : (s.stepMu).resM = s.resM := rfl
@[simp] theorem State.stepMu_sched : (s.stepMu).sched = s.sched := rfl
@[simp] theorem State.stepMu_tick : (s.stepMu).tick = s.tick := rfl
@[simp] theorem State.stepMu_h : (s.stepMu).h = s.h := rfl

/-! `stepPower` -/

@[simp] theorem State.stepPower_mu : (s.stepPower).mu = s.mu := rfl
@[simp] theorem State.stepPower_power : (s.stepPower).power = stairReg s.power := rfl
@[simp] theorem State.stepPower_restart : (s.stepPower).restart = s.restart := rfl
@[simp] theorem State.stepPower_muRun : (s.stepPower).muRun = s.muRun := rfl
@[simp] theorem State.stepPower_powerRun : (s.stepPower).powerRun = s.powerRun := rfl
@[simp] theorem State.stepPower_w : (s.stepPower).w = s.w := rfl
@[simp] theorem State.stepPower_dlp : (s.stepPower).dlp = s.dlp := rfl
@[simp] theorem State.stepPower_dla : (s.stepPower).dla = s.dla := rfl
@[simp] theorem State.stepPower_xb : (s.stepPower).xb = s.xb := rfl
@[simp] theorem State.stepPower_db : (s.stepPower).db = s.db := rfl
@[simp] theorem State.stepPower_yb : (s.stepPower).yb = s.yb := rfl
@[simp] theorem State.stepPower_eb : (s.stepPower).eb = s.eb := rfl
@[simp] theorem State.stepPower_acc : (s.stepPower).acc = s.acc := rfl
@[simp] theorem State.stepPower_prng : (s.stepPower).prng = s.prng := rfl
@[simp] theorem State.stepPower_et : (s.stepPower).et = s.et := rfl
@[simp] theorem State.stepPower_dist : (s.stepPower).dist = s.dist := rfl
@[simp] theorem State.stepPower_conv : (s.stepPower).conv = s.conv := rfl
@[simp] theorem State.stepPower_frame : (s.stepPower).frame = s.frame := rfl
@[simp] theorem State.stepPower_txidx : (s.stepPower).txidx = s.txidx := rfl
@[simp] theorem State.stepPower_ph : (s.stepPower).ph = s.ph := rfl
@[simp] theorem State.stepPower_txs : (s.stepPower).txs = s.txs := rfl
@[simp] theorem State.stepPower_cfg : (s.stepPower).cfg = s.cfg := rfl
@[simp] theorem State.stepPower_wire : (s.stepPower).wire = s.wire := rfl
@[simp] theorem State.stepPower_txReady : (s.stepPower).txReady = s.txReady := rfl
@[simp] theorem State.stepPower_opA : (s.stepPower).opA = s.opA := rfl
@[simp] theorem State.stepPower_opB : (s.stepPower).opB = s.opB := rfl
@[simp] theorem State.stepPower_resS : (s.stepPower).resS = s.resS := rfl
@[simp] theorem State.stepPower_resM : (s.stepPower).resM = s.resM := rfl
@[simp] theorem State.stepPower_sched : (s.stepPower).sched = s.sched := rfl
@[simp] theorem State.stepPower_tick : (s.stepPower).tick = s.tick := rfl
@[simp] theorem State.stepPower_h : (s.stepPower).h = s.h := rfl

/-! `popLine` -/

@[simp] theorem State.popLine_mu : (s.popLine).mu = s.mu := rfl
@[simp] theorem State.popLine_power : (s.popLine).power = s.power := rfl
@[simp] theorem State.popLine_restart : (s.popLine).restart = s.restart := rfl
@[simp] theorem State.popLine_muRun : (s.popLine).muRun = s.muRun := rfl
@[simp] theorem State.popLine_powerRun : (s.popLine).powerRun = s.powerRun := rfl
@[simp] theorem State.popLine_w : (s.popLine).w = s.w := rfl
@[simp] theorem State.popLine_dlp : (s.popLine).dlp = s.dlp := rfl
@[simp] theorem State.popLine_dla : (s.popLine).dla = s.dla := rfl
@[simp] theorem State.popLine_xb : (s.popLine).xb = s.xb := rfl
@[simp] theorem State.popLine_db : (s.popLine).db = s.db := rfl
@[simp] theorem State.popLine_yb : (s.popLine).yb = s.yb := rfl
@[simp] theorem State.popLine_eb : (s.popLine).eb = s.eb := rfl
@[simp] theorem State.popLine_acc : (s.popLine).acc = s.acc := rfl
@[simp] theorem State.popLine_prng : (s.popLine).prng = s.prng := rfl
@[simp] theorem State.popLine_et : (s.popLine).et = s.et := rfl
@[simp] theorem State.popLine_dist : (s.popLine).dist = s.dist := rfl
@[simp] theorem State.popLine_conv : (s.popLine).conv = s.conv := rfl
@[simp] theorem State.popLine_frame : (s.popLine).frame = s.frame := rfl
@[simp] theorem State.popLine_txidx : (s.popLine).txidx = s.txidx := rfl
@[simp] theorem State.popLine_ph : (s.popLine).ph = s.ph := rfl
@[simp] theorem State.popLine_txs : (s.popLine).txs = s.txs := rfl
@[simp] theorem State.popLine_cfg : (s.popLine).cfg = s.cfg := rfl
@[simp] theorem State.popLine_wire : (s.popLine).wire = s.wire := rfl
@[simp] theorem State.popLine_txReady : (s.popLine).txReady = s.txReady := rfl
@[simp] theorem State.popLine_opA : (s.popLine).opA = s.opA := rfl
@[simp] theorem State.popLine_opB : (s.popLine).opB = s.opB := rfl
@[simp] theorem State.popLine_resS : (s.popLine).resS = s.resS := rfl
@[simp] theorem State.popLine_resM : (s.popLine).resM = s.resM := rfl
@[simp] theorem State.popLine_sched : (s.popLine).sched = s.sched.tail := rfl
@[simp] theorem State.popLine_tick : (s.popLine).tick = s.tick + 1 := rfl
@[simp] theorem State.popLine_h : (s.popLine).h = s.h := rfl

/-! `beginRun` -/

@[simp] theorem State.beginRun_mu : (s.beginRun).mu = s.mu := rfl
@[simp] theorem State.beginRun_power : (s.beginRun).power = s.power := rfl
@[simp] theorem State.beginRun_restart : (s.beginRun).restart = false := rfl
@[simp] theorem State.beginRun_muRun : (s.beginRun).muRun = s.mu := rfl
@[simp] theorem State.beginRun_powerRun : (s.beginRun).powerRun = s.power := rfl
@[simp] theorem State.beginRun_w : (s.beginRun).w = s.cfg.wInit := rfl
@[simp] theorem State.beginRun_dlp : (s.beginRun).dlp = List.replicate s.cfg.lineLen 0 := rfl
@[simp] theorem State.beginRun_dla : (s.beginRun).dla = List.replicate s.cfg.lineLen 0 := rfl
@[simp] theorem State.beginRun_xb : (s.beginRun).xb = s.xb := rfl
@[simp] theorem State.beginRun_db : (s.beginRun).db = s.db := rfl
@[simp] theorem State.beginRun_yb : (s.beginRun).yb = s.yb := rfl
@[simp] theorem State.beginRun_eb : (s.beginRun).eb = s.eb := rfl
@[simp] theorem State.beginRun_acc : (s.beginRun).acc = s.acc := rfl
@[simp] theorem State.beginRun_prng : (s.beginRun).prng = s.prng := rfl
@[simp] theorem State.beginRun_et : (s.beginRun).et = s.et := rfl
@[simp] theorem State.beginRun_dist : (s.beginRun).dist = 32767 := rfl
@[simp] theorem State.beginRun_conv : (s.beginRun).conv = false := rfl
@[simp] theorem State.beginRun_frame : (s.beginRun).frame = 0 := rfl
@[simp] theorem State.beginRun_txidx : (s.beginRun).txidx = s.txidx := rfl
@[simp] theorem State.beginRun_ph : (s.beginRun).ph = phGen := rfl
@[simp] theorem State.beginRun_txs : (s.beginRun).txs = s.txs := rfl
@[simp] theorem State.beginRun_cfg : (s.beginRun).cfg = s.cfg := rfl
@[simp] theorem State.beginRun_wire : (s.beginRun).wire = s.wire := rfl
@[simp] theorem State.beginRun_txReady : (s.beginRun).txReady = s.txReady := rfl
@[simp] theorem State.beginRun_opA : (s.beginRun).opA = s.opA := rfl
@[simp] theorem State.beginRun_opB : (s.beginRun).opB = s.opB := rfl
@[simp] theorem State.beginRun_resS : (s.beginRun).resS = s.resS := rfl
@[simp] theorem State.beginRun_resM : (s.beginRun).resM = s.resM := rfl
@[simp] theorem State.beginRun_sched : (s.beginRun).sched = s.sched := rfl
@[simp] theorem State.beginRun_tick : (s.beginRun).tick = s.tick := rfl
@[simp] theorem State.beginRun_h : (s.beginRun).h = s.h := rfl

/-! `genBlock` -/

@[simp] theorem State.genBlock_mu : (s.genBlock).mu = s.mu := rfl
@[simp] theorem State.genBlock_power : (s.genBlock).power = s.power := rfl
@[simp] theorem State.genBlock_restart : (s.genBlock).restart = s.restart := rfl
@[simp] theorem State.genBlock_muRun : (s.genBlock).muRun = s.muRun := rfl
@[simp] theorem State.genBlock_powerRun : (s.genBlock).powerRun = s.powerRun := rfl
@[simp] theorem State.genBlock_w : (s.genBlock).w = s.w := rfl
@[simp] theorem State.genBlock_dlp : (s.genBlock).dlp = s.dlp := rfl
@[simp] theorem State.genBlock_dla : (s.genBlock).dla = s.dla := rfl
@[simp] theorem State.genBlock_xb : (s.genBlock).xb = (genRun s.powerRun s.cfg.block s.prng).out := rfl
@[simp] theorem State.genBlock_db : (s.genBlock).db = s.db := rfl
@[simp] theorem State.genBlock_yb : (s.genBlock).yb = s.yb := rfl
@[simp] theorem State.genBlock_eb : (s.genBlock).eb = s.eb := rfl
@[simp] theorem State.genBlock_acc : (s.genBlock).acc = s.acc := rfl
@[simp] theorem State.genBlock_prng : (s.genBlock).prng = (genRun s.powerRun s.cfg.block s.prng).prng := rfl
@[simp] theorem State.genBlock_et : (s.genBlock).et = s.et := rfl
@[simp] theorem State.genBlock_dist : (s.genBlock).dist = s.dist := rfl
@[simp] theorem State.genBlock_conv : (s.genBlock).conv = s.conv := rfl
@[simp] theorem State.genBlock_frame : (s.genBlock).frame = s.frame := rfl
@[simp] theorem State.genBlock_txidx : (s.genBlock).txidx = s.txidx := rfl
@[simp] theorem State.genBlock_ph : (s.genBlock).ph = phPlant := rfl
@[simp] theorem State.genBlock_txs : (s.genBlock).txs = s.txs := rfl
@[simp] theorem State.genBlock_cfg : (s.genBlock).cfg = s.cfg := rfl
@[simp] theorem State.genBlock_wire : (s.genBlock).wire = s.wire := rfl
@[simp] theorem State.genBlock_txReady : (s.genBlock).txReady = s.txReady := rfl
@[simp] theorem State.genBlock_opA : (s.genBlock).opA = s.opA := rfl
@[simp] theorem State.genBlock_opB : (s.genBlock).opB = s.opB := rfl
@[simp] theorem State.genBlock_resS : (s.genBlock).resS = s.resS := rfl
@[simp] theorem State.genBlock_resM : (s.genBlock).resM = s.resM := rfl
@[simp] theorem State.genBlock_sched : (s.genBlock).sched = s.sched := rfl
@[simp] theorem State.genBlock_tick : (s.genBlock).tick = s.tick := rfl
@[simp] theorem State.genBlock_h : (s.genBlock).h = s.h := rfl

/-! `plantBlock` -/

@[simp] theorem State.plantBlock_mu : (s.plantBlock).mu = s.mu := rfl
@[simp] theorem State.plantBlock_power : (s.plantBlock).power = s.power := rfl
@[simp] theorem State.plantBlock_restart : (s.plantBlock).restart = s.restart := rfl
@[simp] theorem State.plantBlock_muRun : (s.plantBlock).muRun = s.muRun := rfl
@[simp] theorem State.plantBlock_powerRun : (s.plantBlock).powerRun = s.powerRun := rfl
@[simp] theorem State.plantBlock_w : (s.plantBlock).w = s.w := rfl
@[simp] theorem State.plantBlock_dlp : (s.plantBlock).dlp = (plantRun s.h s.xb s.dlp s.acc).dlp := rfl
@[simp] theorem State.plantBlock_dla : (s.plantBlock).dla = s.dla := rfl
@[simp] theorem State.plantBlock_xb : (s.plantBlock).xb = s.xb := rfl
@[simp] theorem State.plantBlock_db : (s.plantBlock).db = (plantRun s.h s.xb s.dlp s.acc).out := rfl
@[simp] theorem State.plantBlock_yb : (s.plantBlock).yb = s.yb := rfl
@[simp] theorem State.plantBlock_eb : (s.plantBlock).eb = s.eb := rfl
@[simp] theorem State.plantBlock_acc : (s.plantBlock).acc = (plantRun s.h s.xb s.dlp s.acc).acc := rfl
@[simp] theorem State.plantBlock_prng : (s.plantBlock).prng = s.prng := rfl
@[simp] theorem State.plantBlock_et : (s.plantBlock).et = s.et := rfl
@[simp] theorem State.plantBlock_dist : (s.plantBlock).dist = s.dist := rfl
@[simp] theorem State.plantBlock_conv : (s.plantBlock).conv = s.conv := rfl
@[simp] theorem State.plantBlock_frame : (s.plantBlock).frame = s.frame := rfl
@[simp] theorem State.plantBlock_txidx : (s.plantBlock).txidx = s.txidx := rfl
@[simp] theorem State.plantBlock_ph : (s.plantBlock).ph = phAdapt := rfl
@[simp] theorem State.plantBlock_txs : (s.plantBlock).txs = s.txs := rfl
@[simp] theorem State.plantBlock_cfg : (s.plantBlock).cfg = s.cfg := rfl
@[simp] theorem State.plantBlock_wire : (s.plantBlock).wire = s.wire := rfl
@[simp] theorem State.plantBlock_txReady : (s.plantBlock).txReady = s.txReady := rfl
@[simp] theorem State.plantBlock_opA : (s.plantBlock).opA = s.opA := rfl
@[simp] theorem State.plantBlock_opB : (s.plantBlock).opB = s.opB := rfl
@[simp] theorem State.plantBlock_resS : (s.plantBlock).resS = s.resS := rfl
@[simp] theorem State.plantBlock_resM : (s.plantBlock).resM = s.resM := rfl
@[simp] theorem State.plantBlock_sched : (s.plantBlock).sched = s.sched := rfl
@[simp] theorem State.plantBlock_tick : (s.plantBlock).tick = s.tick := rfl
@[simp] theorem State.plantBlock_h : (s.plantBlock).h = s.h := rfl

/-! `adaptBlock` -/

@[simp] theorem State.adaptBlock_mu : (s.adaptBlock).mu = s.mu := rfl
@[simp] theorem State.adaptBlock_power : (s.adaptBlock).power = s.power := rfl
@[simp] theorem State.adaptBlock_restart : (s.adaptBlock).restart = s.restart := rfl
@[simp] theorem State.adaptBlock_muRun : (s.adaptBlock).muRun = s.muRun := rfl
@[simp] theorem State.adaptBlock_powerRun : (s.adaptBlock).powerRun = s.powerRun := rfl
@[simp] theorem State.adaptBlock_w : (s.adaptBlock).w = (lmsRun s.muRun s.xb s.db s.w s.dla s.acc).w := rfl
@[simp] theorem State.adaptBlock_dlp : (s.adaptBlock).dlp = s.dlp := rfl
@[simp] theorem State.adaptBlock_dla : (s.adaptBlock).dla = (lmsRun s.muRun s.xb s.db s.w s.dla s.acc).dla := rfl
@[simp] theorem State.adaptBlock_xb : (s.adaptBlock).xb = s.xb := rfl
@[simp] theorem State.adaptBlock_db : (s.adaptBlock).db = s.db := rfl
@[simp] theorem State.adaptBlock_yb : (s.adaptBlock).yb = (lmsRun s.muRun s.xb s.db s.w s.dla s.acc).yb := rfl
@[simp] theorem State.adaptBlock_eb : (s.adaptBlock).eb = (lmsRun s.muRun s.xb s.db s.w s.dla s.acc).eb := rfl
@[simp] theorem State.adaptBlock_acc : (s.adaptBlock).acc = (lmsRun s.muRun s.xb s.db s.w s.dla s.acc).acc := rfl
@[simp] theorem State.adaptBlock_prng : (s.adaptBlock).prng = s.prng := rfl
@[simp] theorem State.adaptBlock_et : (s.adaptBlock).et = s.et := rfl
@[simp] theorem State.adaptBlock_dist : (s.adaptBlock).dist = s.dist := rfl
@[simp] theorem State.adaptBlock_conv : (s.adaptBlock).conv = s.conv := rfl
@[simp] theorem State.adaptBlock_frame : (s.adaptBlock).frame = s.frame := rfl
@[simp] theorem State.adaptBlock_txidx : (s.adaptBlock).txidx = s.txidx := rfl
@[simp] theorem State.adaptBlock_ph : (s.adaptBlock).ph = phMse := rfl
@[simp] theorem State.adaptBlock_txs : (s.adaptBlock).txs = s.txs := rfl
@[simp] theorem State.adaptBlock_cfg : (s.adaptBlock).cfg = s.cfg := rfl
@[simp] theorem State.adaptBlock_wire : (s.adaptBlock).wire = s.wire := rfl
@[simp] theorem State.adaptBlock_txReady : (s.adaptBlock).txReady = s.txReady := rfl
@[simp] theorem State.adaptBlock_opA : (s.adaptBlock).opA = s.opA := rfl
@[simp] theorem State.adaptBlock_opB : (s.adaptBlock).opB = s.opB := rfl
@[simp] theorem State.adaptBlock_resS : (s.adaptBlock).resS = s.resS := rfl
@[simp] theorem State.adaptBlock_resM : (s.adaptBlock).resM = s.resM := rfl
@[simp] theorem State.adaptBlock_sched : (s.adaptBlock).sched = s.sched := rfl
@[simp] theorem State.adaptBlock_tick : (s.adaptBlock).tick = s.tick := rfl
@[simp] theorem State.adaptBlock_h : (s.adaptBlock).h = s.h := rfl

/-! `mseBlock` -/

@[simp] theorem State.mseBlock_mu : (s.mseBlock).mu = s.mu := rfl
@[simp] theorem State.mseBlock_power : (s.mseBlock).power = s.power := rfl
@[simp] theorem State.mseBlock_restart : (s.mseBlock).restart = s.restart := rfl
@[simp] theorem State.mseBlock_muRun : (s.mseBlock).muRun = s.muRun := rfl
@[simp] theorem State.mseBlock_powerRun : (s.mseBlock).powerRun = s.powerRun := rfl
@[simp] theorem State.mseBlock_w : (s.mseBlock).w = s.w := rfl
@[simp] theorem State.mseBlock_dlp : (s.mseBlock).dlp = s.dlp := rfl
@[simp] theorem State.mseBlock_dla : (s.mseBlock).dla = s.dla := rfl
@[simp] theorem State.mseBlock_xb : (s.mseBlock).xb = s.xb := rfl
@[simp] theorem State.mseBlock_db : (s.mseBlock).db = s.db := rfl
@[simp] theorem State.mseBlock_yb : (s.mseBlock).yb = s.yb := rfl
@[simp] theorem State.mseBlock_eb : (s.mseBlock).eb = s.eb := rfl
@[simp] theorem State.mseBlock_acc : (s.mseBlock).acc = maccAll 0 s.eb s.eb := rfl
@[simp] theorem State.mseBlock_prng : (s.mseBlock).prng = s.prng := rfl
@[simp] theorem State.mseBlock_et : (s.mseBlock).et = s.et.set s.frame.toNat (amean s.tick s.cfg.block (maccAll 0 s.eb s.eb)) := rfl
@[simp] theorem State.mseBlock_dist : (s.mseBlock).dist = s.dist := rfl
@[simp] theorem State.mseBlock_conv : (s.mseBlock).conv = s.conv := rfl
@[simp] theorem State.mseBlock_frame : (s.mseBlock).frame = s.frame := rfl
@[simp] theorem State.mseBlock_txidx : (s.mseBlock).txidx = s.txidx := rfl
@[simp] theorem State.mseBlock_ph : (s.mseBlock).ph = phDist := rfl
@[simp] theorem State.mseBlock_txs : (s.mseBlock).txs = s.txs := rfl
@[simp] theorem State.mseBlock_cfg : (s.mseBlock).cfg = s.cfg := rfl
@[simp] theorem State.mseBlock_wire : (s.mseBlock).wire = s.wire := rfl
@[simp] theorem State.mseBlock_txReady : (s.mseBlock).txReady = s.txReady := rfl
@[simp] theorem State.mseBlock_opA : (s.mseBlock).opA = s.opA := rfl
@[simp] theorem State.mseBlock_opB : (s.mseBlock).opB = s.opB := rfl
@[simp] theorem State.mseBlock_resS : (s.mseBlock).resS = s.resS := rfl
@[simp] theorem State.mseBlock_resM : (s.mseBlock).resM = s.resM := rfl
@[simp] theorem State.mseBlock_sched : (s.mseBlock).sched = s.sched := rfl
@[simp] theorem State.mseBlock_tick : (s.mseBlock).tick = s.tick := rfl
@[simp] theorem State.mseBlock_h : (s.mseBlock).h = s.h := rfl

/-! `distBlock` -/

@[simp] theorem State.distBlock_mu : (s.distBlock).mu = s.mu := rfl
@[simp] theorem State.distBlock_power : (s.distBlock).power = s.power := rfl
@[simp] theorem State.distBlock_restart : (s.distBlock).restart = s.restart := rfl
@[simp] theorem State.distBlock_muRun : (s.distBlock).muRun = s.muRun := rfl
@[simp] theorem State.distBlock_powerRun : (s.distBlock).powerRun = s.powerRun := rfl
@[simp] theorem State.distBlock_w : (s.distBlock).w = s.w := rfl
@[simp] theorem State.distBlock_dlp : (s.distBlock).dlp = s.dlp := rfl
@[simp] theorem State.distBlock_dla : (s.distBlock).dla = s.dla := rfl
@[simp] theorem State.distBlock_xb : (s.distBlock).xb = s.xb := rfl
@[simp] theorem State.distBlock_db : (s.distBlock).db = s.db := rfl
@[simp] theorem State.distBlock_yb : (s.distBlock).yb = s.yb := rfl
@[simp] theorem State.distBlock_eb : (s.distBlock).eb = s.eb := rfl
@[simp] theorem State.distBlock_acc : (s.distBlock).acc = s.acc := rfl
@[simp] theorem State.distBlock_prng : (s.distBlock).prng = s.prng := rfl
@[simp] theorem State.distBlock_et : (s.distBlock).et = s.et := rfl
@[simp] theorem State.distBlock_dist : (s.distBlock).dist = tapDistance s.tick s.h s.w 32767 := rfl
@[simp] theorem State.distBlock_conv : (s.distBlock).conv = convFlag s.cfg (tapDistance s.tick s.h s.w 32767) := rfl
@[simp] theorem State.distBlock_frame : (s.distBlock).frame = s.frame := rfl
@[simp] theorem State.distBlock_txidx : (s.distBlock).txidx = s.txidx := rfl
@[simp] theorem State.distBlock_ph : (s.distBlock).ph = phNextf := rfl
@[simp] theorem State.distBlock_txs : (s.distBlock).txs = s.txs := rfl
@[simp] theorem State.distBlock_cfg : (s.distBlock).cfg = s.cfg := rfl
@[simp] theorem State.distBlock_wire : (s.distBlock).wire = s.wire := rfl
@[simp] theorem State.distBlock_txReady : (s.distBlock).txReady = s.txReady := rfl
@[simp] theorem State.distBlock_opA : (s.distBlock).opA = s.opA := rfl
@[simp] theorem State.distBlock_opB : (s.distBlock).opB = s.opB := rfl
@[simp] theorem State.distBlock_resS : (s.distBlock).resS = s.resS := rfl
@[simp] theorem State.distBlock_resM : (s.distBlock).resM = s.resM := rfl
@[simp] theorem State.distBlock_sched : (s.distBlock).sched = s.sched := rfl
@[simp] theorem State.distBlock_tick : (s.distBlock).tick = s.tick := rfl
@[simp] theorem State.distBlock_h : (s.distBlock).h = s.h := rfl

end Sys2Proof.Machine
end

