-- ==== Sys2Proof/Laws/Ops.lean ====
section
/-! SUPPORT. One lemma per shared operation: what it answers, said once. -/

namespace Sys2Proof.Machine

@[simp] theorem shiftLine_length (d : List Sample) (x : Sample) : (shiftLine d x).length = d.length := by
  simp [shiftLine]

/-- `SHIFT` element by element (R131). -/
theorem shiftLine_getD_zero {d : List Sample} (h : d ≠ []) (x : Sample) : (shiftLine d x).getD 0 0 = x := by
  cases d with
  | nil => exact absurd rfl h
  | cons a d => simp [shiftLine]

theorem shiftLine_getD_succ (d : List Sample) (x : Sample) {k : Nat} (h : k + 1 < d.length) :
    (shiftLine d x).getD (k + 1) 0 = d.getD k 0 := by
  have hk : k < d.length := by omega
  simp [shiftLine, List.getD_eq_getElem?_getD, h, hk]

theorem andThen_eq_next {o : Result} {f : State → Result} {t : State} (h : andThen o f = .next t) :
    ∃ u, o = .next u ∧ f u = .next t := by
  cases o with
  | next u => exact ⟨u, rfl, h⟩
  | fault r => cases h
  | refused r => cases h

@[simp] theorem andThen_next (s : State) (f : State → Result) : andThen (.next s) f = f s := rfl

theorem resetStep_eq_next {s t : State} (h : resetStep s = .next t) :
    configLegal s.cfg ∧ t = State.resetWith s.cfg s.tick s.sched s.wire := by
  unfold resetStep at h
  split at h
  · cases h
  · rename_i hc
    exact ⟨(configProblem_eq_none_iff _).1 hc, by cases h; rfl⟩

theorem resetStep_of_legal {s : State} (h : configLegal s.cfg) :
    resetStep s = .next (State.resetWith s.cfg s.tick s.sched s.wire) := by
  rw [resetStep, (configProblem_eq_none_iff _).2 h]

/-- The exact sum that `DOT` and `MSE` form. -/
def sumProducts : List Sample → List Sample → Int
  | c :: cs, d :: ds => c.toInt * d.toInt + sumProducts cs ds
  | _, _ => 0

/-- While the sum of the magnitudes stays below `2^39`, accumulation is exact. -/
theorem maccAll_toInt (c d : List Sample) (acc : Acc) (k : Nat)
    (hk : min c.length d.length ≤ k)
    (h1 : -549755813888 + 1073741824 * (k : Int) ≤ acc.toInt)
    (h2 : acc.toInt ≤ 549755813887 - 1073741824 * (k : Int)) :
    (maccAll acc c d).toInt = acc.toInt + sumProducts c d := by
  induction c generalizing d acc k with
  | nil => simp [maccAll, sumProducts]
  | cons x xs ih =>
    cases d with
    | nil => simp [maccAll, sumProducts]
    | cons y ys =>
      have hk' : min xs.length ys.length + 1 ≤ k := by simpa [Nat.succ_min_succ] using hk
      obtain ⟨j, rfl⟩ : ∃ j, k = j + 1 := ⟨k - 1, by omega⟩
      have hp := product_bounds x y
      push_cast at h1 h2
      have hm : (macc acc x y).toInt = acc.toInt + x.toInt * y.toInt := macc_toInt (by omega) (by omega)
      rw [maccAll, ih ys (macc acc x y) j (by omega) (by omega) (by omega), hm, sumProducts]
      ring

end Sys2Proof.Machine
end

