-- ==== Sys2Proof/Laws/Blocks.lean ====
section
/-! SUPPORT. The block operations, said once without their recursion: what each run leaves, element by element. -/

namespace Sys2Proof.Machine

/-! The delay line. -/

/-- The line after the first `n` samples of `xs` have been shifted into `d` (R131, R132). -/
def lineAfter (xs d : List Sample) (n : Nat) : List Sample := ((xs.take n).reverse ++ d).take d.length

@[simp] theorem lineAfter_zero (xs d : List Sample) : lineAfter xs d 0 = d := by simp [lineAfter]

@[simp] theorem lineAfter_length (xs d : List Sample) (n : Nat) : (lineAfter xs d n).length = d.length := by
  simp [lineAfter]

/-- Shifting a sample in first and the rest after is shifting them all in. -/
theorem lineAfter_cons (x : Sample) (xs d : List Sample) (n : Nat) :
    lineAfter (x :: xs) d (n + 1) = lineAfter xs (shiftLine d x) n := by
  simp only [lineAfter, List.take_succ_cons, List.reverse_cons, List.append_assoc, List.singleton_append,
    shiftLine_length]
  simp only [shiftLine, List.take_append, List.take_take, List.length_reverse]
  congr 2
  omega

/-- Element `i` of the line after `n` samples: a sample of the block, or one the line held before (R132). -/
theorem lineAfter_getD (xs d : List Sample) (n i : Nat) (hn : n ≤ xs.length) (hi : i < d.length) :
    (lineAfter xs d n).getD i 0 = if i < n then xs.getD (n - 1 - i) 0 else d.getD (i - n) 0 := by
  have hl : (xs.take n).reverse.length = n := by simp [hn]
  simp only [lineAfter, List.getD_eq_getElem?_getD, List.getElem?_take, hi, if_true]
  split_ifs with h
  · rw [List.getElem?_append_left (by omega), List.getElem?_reverse (by simp; omega)]
    simp only [List.length_take, List.getElem?_take]
    rw [if_pos (by omega)]
    congr 2
    omega
  · rw [List.getElem?_append_right (by omega), hl]

/-! `GEN`. -/

theorem genRun_prng (p : Sample) (n : Nat) (g : GenWord) : (genRun p n g).prng = prns^[n] g := by
  induction n generalizing g with
  | zero => rfl
  | succ n ih => simp [genRun, ih]

theorem genRun_out (p : Sample) (n : Nat) (g : GenWord) :
    (genRun p n g).out = (List.range n).map fun k => drawSample (prns^[k + 1] g) p := by
  induction n generalizing g with
  | zero => rfl
  | succ n ih => simp [genRun, ih, List.range_succ_eq_map, Function.comp_def]

@[simp] theorem genRun_out_length (p : Sample) (n : Nat) (g : GenWord) : (genRun p n g).out.length = n := by
  simp [genRun_out]

/-! `PLANT`. -/

theorem plantRun_dlp (h xs d : List Sample) (acc : Acc) : (plantRun h xs d acc).dlp = lineAfter xs d xs.length := by
  induction xs generalizing d acc with
  | nil => simp [plantRun]
  | cons x xs ih => rw [plantRun, List.length_cons, lineAfter_cons, ← ih]

theorem plantRun_out (h xs d : List Sample) (acc : Acc) :
    (plantRun h xs d acc).out = (List.range xs.length).map fun n => dot h (lineAfter xs d (n + 1)) := by
  induction xs generalizing d acc with
  | nil => rfl
  | cons x xs ih =>
    simp only [plantRun, ih, List.length_cons, List.range_succ_eq_map, List.map_cons, List.map_map, Function.comp_def,
      lineAfter_cons, lineAfter_zero]

/-- The accumulator after a block holds the last sample's sum. -/
theorem plantRun_acc (h xs d : List Sample) (acc : Acc) (hx : xs ≠ []) :
    (plantRun h xs d acc).acc = dotAcc h (lineAfter xs d xs.length) := by
  induction xs generalizing d acc with
  | nil => exact absurd rfl hx
  | cons x xs ih =>
    rw [plantRun, List.length_cons, lineAfter_cons]
    by_cases h0 : xs = []
    · simp [h0, plantRun]
    · exact ih _ _ h0

@[simp] theorem plantRun_out_length (h xs d : List Sample) (acc : Acc) :
    (plantRun h xs d acc).out.length = xs.length := by
  simp [plantRun_out]

@[simp] theorem plantRun_dlp_length (h xs d : List Sample) (acc : Acc) :
    (plantRun h xs d acc).dlp.length = d.length := by
  simp [plantRun_dlp]

/-! `ADAPT`. -/

theorem updateTaps_length (alpha : Sample) (w d : List Sample) (h : w.length ≤ d.length) :
    (updateTaps alpha w d).length = w.length := by
  simp [updateTaps, h]

theorem updateTaps_getD (alpha : Sample) (w d : List Sample) (i : Nat) (hi : i < w.length) (h : w.length ≤ d.length) :
    (updateTaps alpha w d).getD i 0 = sadd (w.getD i 0) (qmul alpha (d.getD i 0)) := by
  have hd : i < d.length := by omega
  simp [updateTaps, List.getD_eq_getElem?_getD, hi, hd]

/-- A step size of 0, or a line of zeros, leaves every tap as it is. -/
theorem updateTaps_eq_self (alpha : Sample) (w d : List Sample) (hl : w.length ≤ d.length)
    (h : ∀ x ∈ d, qmul alpha x = 0) : updateTaps alpha w d = w := by
  apply List.ext_getElem (updateTaps_length alpha w d hl)
  intro i h1 h2
  simp only [updateTaps, List.getElem_zipWith, h _ (List.getElem_mem _)]
  exact sadd_zero _

theorem lmsRun_dla (m : Sample) (xs ds w d : List Sample) (acc : Acc) (h : ds.length = xs.length) :
    (lmsRun m xs ds w d acc).dla = lineAfter xs d xs.length := by
  induction xs generalizing ds w d acc with
  | nil => simp [lmsRun]
  | cons x xs ih =>
    obtain ⟨e, ds, rfl⟩ := List.exists_cons_of_length_eq_add_one h
    simp only [lmsRun, lmsSample, List.length_cons, lineAfter_cons]
    exact ih ds _ _ _ (by simpa using h)

theorem lmsRun_lengths (m : Sample) (xs ds w d : List Sample) (acc : Acc) (h : ds.length = xs.length)
    (hw : w.length ≤ d.length) :
    (lmsRun m xs ds w d acc).w.length = w.length ∧ (lmsRun m xs ds w d acc).dla.length = d.length ∧
    (lmsRun m xs ds w d acc).yb.length = xs.length ∧ (lmsRun m xs ds w d acc).eb.length = xs.length := by
  induction xs generalizing ds w d acc with
  | nil => simp [lmsRun]
  | cons x xs ih =>
    obtain ⟨e, ds, rfl⟩ := List.exists_cons_of_length_eq_add_one h
    have hu : (updateTaps (qmul m (ssub e (dot w (shiftLine d x)))) w (shiftLine d x)).length = w.length :=
      updateTaps_length _ _ _ (by simpa using hw)
    have := ih ds (updateTaps (qmul m (ssub e (dot w (shiftLine d x)))) w (shiftLine d x)) (shiftLine d x)
      (dotAcc w (shiftLine d x)) (by simpa using h) (by rw [hu]; simpa using hw)
    simp only [lmsRun, lmsSample, List.length_cons]
    rw [hu] at this
    simpa using this

end Sys2Proof.Machine
end

