-- ==== Sys2Proof/Laws/PerInstr.lean ====
section
/-! SUPPORT. What is said of every operation, one lemma per constructor: its code is not reserved and decodes to it
(30_encoding.md R97 to R99, R104). -/

namespace Sys2Proof.Laws.RoundTrip

/-- The code of `i` is well-formed and the decoder reads `i` from it. -/
def Statement (i : Instr) : Prop := (encode i).wf = true ∧ decode (encode i) = .ok i

theorem aclr : Statement .aclr := ⟨rfl, rfl⟩
theorem macc : Statement .macc := ⟨rfl, rfl⟩
theorem ascl : Statement .ascl := ⟨rfl, rfl⟩
theorem qmul : Statement .qmul := ⟨rfl, rfl⟩
theorem sadd : Statement .sadd := ⟨rfl, rfl⟩
theorem ssub : Statement .ssub := ⟨rfl, rfl⟩
theorem sabs : Statement .sabs := ⟨rfl, rfl⟩
theorem umin : Statement .umin := ⟨rfl, rfl⟩
theorem amean : Statement .amean := ⟨rfl, rfl⟩
theorem wait : Statement .wait := ⟨rfl, rfl⟩
theorem start : Statement .start := ⟨rfl, rfl⟩
theorem gen : Statement .gen := ⟨rfl, rfl⟩
theorem plant : Statement .plant := ⟨rfl, rfl⟩
theorem adapt : Statement .adapt := ⟨rfl, rfl⟩
theorem mse : Statement .mse := ⟨rfl, rfl⟩
theorem dist : Statement .dist := ⟨rfl, rfl⟩
theorem nextf : Statement .nextf := ⟨rfl, rfl⟩
theorem txc : Statement .txc := ⟨rfl, rfl⟩
theorem txe : Statement .txe := ⟨rfl, rfl⟩
theorem evnone : Statement .evnone := ⟨rfl, rfl⟩
theorem evmu : Statement .evmu := ⟨rfl, rfl⟩
theorem evpow : Statement .evpow := ⟨rfl, rfl⟩
theorem evboth : Statement .evboth := ⟨rfl, rfl⟩

end Sys2Proof.Laws.RoundTrip
end

