-- ==== Sys2Proof/Laws/Sequencer.lean ====
section
/-! SUPPORT. The phase-moving effects by case, each said once: `NEXTF`, `TXC`, `TXE`. -/

namespace Sys2Proof.Machine

/-- The last frame is counted: on to the telemetry (R219). -/
theorem State.countFrame_of_last {s : State} (h : (s.frame + 1).toNat = s.cfg.numFrames) :
    s.countFrame = { s with frame := s.frame + 1, txidx := 0, ph := phTxc } := if_pos h

/-- A frame is counted and another follows (R219). -/
theorem State.countFrame_of_more {s : State} (h : (s.frame + 1).toNat ≠ s.cfg.numFrames) :
    s.countFrame = { s with frame := s.frame + 1, ph := phGen } := if_neg h

/-- The last byte of the coefficient frame (R202). -/
theorem State.sendCoef_of_last {s : State} (h : s.txidx.toNat + 1 = s.cfg.coefFrameLen) :
    s.sendCoef = { s with
      txs := s.txs ++ [(s.coefByte s.txidx.toNat, true)], wire := s.wire ++ [s.coefByte s.txidx.toNat],
      txidx := 0, ph := if s.cfg.errTraceEn then phTxe else phWait } := by
  simp [State.sendCoef, State.atLast, State.emit, h]

/-- Any other byte of the coefficient frame (R202). -/
theorem State.sendCoef_of_more {s : State} (h : s.txidx.toNat + 1 ≠ s.cfg.coefFrameLen) :
    s.sendCoef = { s with
      txs := s.txs ++ [(s.coefByte s.txidx.toNat, false)], wire := s.wire ++ [s.coefByte s.txidx.toNat],
      txidx := s.txidx + 1 } := by
  simp [State.sendCoef, State.atLast, State.emit, h]

/-- The last byte of the error-trace frame (R204). -/
theorem State.sendErr_of_last {s : State} (h : s.txidx.toNat + 1 = s.cfg.errFrameLen) :
    s.sendErr = { s with
      txs := s.txs ++ [(s.errByte s.txidx.toNat, true)], wire := s.wire ++ [s.errByte s.txidx.toNat],
      txidx := 0, ph := phWait } := by
  simp [State.sendErr, State.atLast, State.emit, h]

/-- Any other byte of the error-trace frame (R204). -/
theorem State.sendErr_of_more {s : State} (h : s.txidx.toNat + 1 ≠ s.cfg.errFrameLen) :
    s.sendErr = { s with
      txs := s.txs ++ [(s.errByte s.txidx.toNat, false)], wire := s.wire ++ [s.errByte s.txidx.toNat],
      txidx := s.txidx + 1 } := by
  simp [State.sendErr, State.atLast, State.emit, h]

/-- Adding 1 to the frame counter does not wrap while a frame is to come (R39). -/
theorem frame_succ_toNat {s : State} (h : legal s) (hf : s.frame.toNat < s.cfg.numFrames) :
    (s.frame + 1).toNat = s.frame.toNat + 1 := by
  have := configLegal_sizes h.1
  rw [BitVec.toNat_add]
  simp
  omega

/-- Adding 1 to the telemetry index does not wrap before the last byte of a telemetry frame (R40). -/
theorem txidx_succ_toNat {s : State} (h : legal s) (hk : s.txidx.toNat + 1 < max s.cfg.coefFrameLen s.cfg.errFrameLen) :
    (s.txidx + 1).toNat = s.txidx.toNat + 1 := by
  have hs := configLegal_sizes h.1
  simp only [Config.coefFrameLen, Config.errFrameLen] at hk
  rw [BitVec.toNat_add]
  simp
  omega

/-- `PH` of a legal state, one case per phase. -/
theorem phaseLegal_cases {s : State} (h : phaseLegal s) :
    s.ph = phWait ∨ s.ph = phStart ∨ s.ph = phGen ∨ s.ph = phPlant ∨ s.ph = phAdapt ∨ s.ph = phMse ∨ s.ph = phDist ∨
      s.ph = phNextf ∨ s.ph = phTxc ∨ s.ph = phTxe := by
  unfold phaseLegal at h
  generalize s.ph = p at *
  revert p
  decide

end Sys2Proof.Machine
end

