-- ==== Sys2Proof/Laws/Run.lean ====
section
/-! SUPPORT. Runs of the machine, and what taking a line off the schedule leaves. -/

namespace Sys2Proof.Machine

/-- A run goes on from the state a step answers. -/
theorem coreRun_succ (M : Host.Core) {s t : M.State} (h : M.step s = .next t) (k : Nat) : M.run (k + 1) s = M.run k t := by
  rw [Host.Core.run, h]

/-- Two runs in a row are one run. -/
theorem coreRun_add (M : Host.Core) {s t : M.State} {k : Nat} (h : M.run k s = .next t) (n : Nat) :
    M.run (k + n) s = M.run n t := by
  induction k generalizing s with
  | zero =>
    rw [Host.Core.run] at h
    injection h with h
    rw [Nat.zero_add, h]
  | succ k ih =>
    rw [show k + 1 + n = k + n + 1 by omega]
    rw [Host.Core.run] at h ⊢
    cases hs : M.step s with
    | next u => rw [hs] at h; exact ih h
    | fault r => rw [hs] at h; cases h
    | refused r => rw [hs] at h; cases h

@[simp] theorem run_zero (s : State) : Host.Core.run Sys2Proof.core 0 s = Host.Outcome.next s := rfl

theorem run_succ {s t : State} (h : step s = .next t) (k : Nat) :
    Host.Core.run Sys2Proof.core (k + 1) s = Host.Core.run Sys2Proof.core k t := coreRun_succ Sys2Proof.core h k

theorem run_add {s t : State} {k : Nat} (h : Host.Core.run Sys2Proof.core k s = Host.Outcome.next t) (n : Nat) :
    Host.Core.run Sys2Proof.core (k + n) s = Host.Core.run Sys2Proof.core n t := coreRun_add Sys2Proof.core h n

/-- When the sequencer takes its step in a clocked step: when it is scheduled, and when a byte moves (R76). -/
@[simp] theorem seqActs_iff (inp : StepInput) (s : State) :
    seqActs inp s = true ↔ inp.seq = true ∨ ((s.ph = phTxc ∨ s.ph = phTxe) ∧ inp.txReady = true) := by
  simp [seqActs, State.txValid]

/-- The three things a clocked step can be (R76, R77, R265). -/
theorem runClock_of_rst {inp : StepInput} (h : inp.rst = true) (s : State) : runClock inp s = resetStep s := if_pos h

theorem runClock_of_acts {inp : StepInput} {s : State} (h : inp.rst = false) (ha : seqActs inp s = true) :
    runClock inp s =
      andThen (seqStep inp.txReady s) (exec (decodeEvent (eventCode inp.evMu inp.evPow))) := by
  rw [runClock, h, if_neg Bool.false_ne_true, if_pos ha]

theorem runClock_of_event {inp : StepInput} {s : State} (h : inp.rst = false) (ha : ¬ seqActs inp s = true) :
    runClock inp s = exec (decodeEvent (eventCode inp.evMu inp.evPow)) (s.withReady inp.txReady) := by
  rw [runClock, h, if_neg Bool.false_ne_true, if_neg ha, andThen_next]

theorem nextLine_of_cons {s : State} {l : Line} {rest : List Line} (h : s.sched = l :: rest) : nextLine s = l := by
  simp [nextLine, h]

theorem popLine_of_cons {s : State} {l : Line} {rest : List Line} (h : s.sched = l :: rest) :
    s.popLine = { s with sched := rest, tick := s.tick + 1 } := by
  simp [State.popLine, h]

end Sys2Proof.Machine
end

