-- ==== Sys2Proof/Tests/Slice0.lean ====
section
/-! SUPPORT. Tests: well-formedness, decoding, one-step checks with expected values taken from spec/95_test_vectors.md (its
section is named), and for each statement with hypotheses a witness that meets them all. -/

namespace Sys2Proof.Tests

-- One theorem after the other: each waits for the kernel, and all waiting at once takes too many threads.
set_option Elab.async false

open Sys2Proof.Machine Sys2Proof.Claims

/-! Helpers. -/

/-- The parameters of program P1 (95_test_vectors.md section 4). -/
def tiny : Config := { Config.testDefault with
  taps := 3, block := 4, numFrames := 2, hCoef := [8000, -16000, 4000], wInit := [0, 0, 0], muMin := 28000,
  powerMin := 1000, distThreshold := 3990, testInstance := true }

/-- After reset, with the latches at known values. -/
def base : State := { State.resetWith tiny 0 [] [] with muRun := 28000, powerRun := 1000 }

/-- `base` in the phase `p`. -/
def atPhase (p : BitVec 4) : State := { base with ph := p }

/-- `base` with one schedule. -/
def withLines (ls : List Line) : State := { base with sched := ls }

/-- What `f` reads in the state a step answers; `none` where it stops. -/
def after {α : Type} (o : Result) (f : State → α) : Option α :=
  match o with
  | .next t => some (f t)
  | _ => none

/-- A step answers a next state. -/
def answers (o : Result) : Bool := (after o fun _ => ()).isSome

theorem exists_of_answers {o : Result} (h : answers o = true) : ∃ t, o = .next t := by
  cases o with
  | next t => exact ⟨t, rfl⟩
  | fault r => cases h
  | refused r => cases h

/-- The fault a step answers. -/
def faultOf (o : Result) : Option Fault :=
  match o with
  | .fault r => some r
  | _ => none

/-- The refusal a step answers. -/
def refusalOf (o : Result) : Option Refusal :=
  match o with
  | .refused r => some r
  | _ => none

/-! Well-formedness: each check refuses an ill-formed term. -/

theorem test_wf_refuses_reserved_primitive : (Code.p 9#4).wf = false ∧ (Code.p 15#4).wf = false := by decide
theorem test_wf_refuses_reserved_phase : (Code.s 10#4).wf = false ∧ (Code.s 15#4).wf = false := by decide
theorem test_wf_refuses_lines : (Line.seq 10#4).wf = false ∧ (Line.prim 9#4 0 0).wf = false := by decide
theorem test_wf_accepts : (Code.p 8#4).wf = true ∧ (Code.s 9#4).wf = true ∧ (Code.e 3#2).wf = true ∧
    (Line.ev 3#2).wf = true ∧ Line.rst.wf = true ∧ (Line.seq 9#4).wf = true := by decide

/-! Decoding: every code written out from the tables of R97 to R99. -/

theorem test_decode_p : [0b0000#4, 0b0001#4, 0b0010#4, 0b0011#4, 0b0100#4, 0b0101#4, 0b0110#4, 0b0111#4, 0b1000#4].map
    (fun c => (decode (.p c)).toOption) =
    [some .aclr, some .macc, some .ascl, some .qmul, some .sadd, some .ssub, some .sabs, some .umin, some .amean] := by
  decide

theorem test_decode_s :
    [0b0000#4, 0b0001#4, 0b0010#4, 0b0011#4, 0b0100#4, 0b0101#4, 0b0110#4, 0b0111#4, 0b1000#4, 0b1001#4].map
    (fun c => (decode (.s c)).toOption) =
    [some .wait, some .start, some .gen, some .plant, some .adapt, some .mse, some .dist, some .nextf, some .txc,
      some .txe] := by
  decide

theorem test_decode_e : [0b00#2, 0b01#2, 0b10#2, 0b11#2].map (fun c => (decode (.e c)).toOption) =
    [some .evnone, some .evmu, some .evpow, some .evboth] := by
  decide

theorem test_decode_refuses : (decode (.p 0b1001#4)).toOption = none ∧ (decode (.p 0b1111#4)).toOption = none ∧
    (decode (.s 0b1010#4)).toOption = none ∧ (decode (.s 0b1111#4)).toOption = none := by
  decide

theorem test_decodeTableWord : decodeTableWord 8 0b0100 = some .adapt ∧ decodeTableWord 4 0b1001 = some .txe ∧
    decodeTableWord 2 0b10 = some .evpow ∧ decodeTableWord 8 0b1010 = none ∧ decodeTableWord 8 16 = none := by
  decide

/-- The first step after reset fetches the placed word: `GEN` moves on to `PLANT`, an event steps `MU` (R183). -/
theorem test_step_of_fetch_word :
    after (step (State.reset.withFetchWord 8 0)) (fun t => t.ph) = some phStart ∧
    after (step (State.reset.withFetchWord 8 7)) (fun t => (t.ph, t.frame)) = some (phGen, 1) ∧
    after (step (State.reset.withFetchWord 2 1)) (fun t => t.mu) = some 28000 := by
  decide +kernel

/-! P operations (section 2.1). -/

theorem test_aclr : after (exec .aclr { base with acc := 5 }) (fun t => t.acc) = some 0 := by decide +kernel
theorem test_macc : after (exec .macc { base with acc := 2112000, opA := -5, opB := 300 }) (fun t => t.acc) =
    some 2110500 := by decide +kernel
theorem test_macc_clamps : macc 549755813887 1 1 = 549755813887 ∧ macc (-549755813888) (-1) 1 = -549755813888 := by
  decide
theorem test_ascl : [1073692671, 1073692672, -1073725440, -1073725441].map ascl = [32766, 32767, -32767, -32768] := by
  decide
theorem test_ascl_keeps_acc : after (exec .ascl { base with acc := 2110500 }) (fun t => (t.resS, t.acc)) =
    some (64, 2110500) := by decide +kernel
theorem test_qmul : after (exec .qmul { base with opA := -30824, opB := 5000 }) (fun t => t.resS) = some (-4703) := by
  decide +kernel
theorem test_qmul_ties : [qmul 3 16384, qmul (-3) 16384, qmul 32767 (-1), qmul 153 (-4000)] = [2, -1, -1, -19] := by decide
theorem test_sadd : after (exec .sadd { base with opA := 32767, opB := -32768 }) (fun t => t.resS) = some (-1) := by
  decide +kernel
theorem test_ssub : after (exec .ssub { base with opA := 1200, opB := 200 }) (fun t => t.resS) = some 1000 := by
  decide +kernel
theorem test_sabs : after (exec .sabs { base with opA := -32768 }) (fun t => t.resS) = some 32767 := by decide +kernel
theorem test_umin : after (exec .umin { base with opA := 7, opB := 3 }) (fun t => t.resS) = some 3 := by decide +kernel
theorem test_amean : after (exec .amean { base with acc := 551406 }) (fun t => (t.resM, t.acc)) =
    some (137851, 551406) := by decide +kernel

/-! The block operations (section 4, frame 0). -/

theorem test_gen : after (exec .gen (atPhase phGen)) (fun t => (t.xb, t.prng, t.ph)) =
    some ([-941, 167, 563, -987], 0x81B3AC98, phPlant) := by decide +kernel
theorem test_plant : after (exec .plant { atPhase phPlant with xb := [-941, 167, 563, -987] })
    (fun t => (t.db, t.dlp, t.ph)) =
    some ([-230, 500, -59, -495], [-987, 563, 167, -941, 0, 0], phAdapt) := by decide +kernel
theorem test_adapt : after (exec .adapt { atPhase phAdapt with
      xb := [877, 325, -924, -460], db := [765, -469, -277, 379], w := [20, -19, -1], dla := [-987, 563, 167, -941, 0, 0] })
    (fun t => (t.yb, t.eb, t.w, t.dla)) =
    some ([1, -1, -1, 1], [764, -468, -276, 378], [35, -61, 19], [-460, -924, 325, 877, -987, 563]) := by decide +kernel
theorem test_mse : after (exec .mse { atPhase phMse with eb := [-230, 500, -59, -495], et := [7, 9], frame := 1 })
    (fun t => (t.et, t.ph)) = some ([7, 137851], phDist) := by decide +kernel
theorem test_dist : after (exec .dist { atPhase phDist with w := [35, -61, 19] }) (fun t => (t.dist, t.conv)) =
    some (3981, true) := by decide +kernel
theorem test_dist_not_converged : after (exec .dist { atPhase phDist with w := [20, -19, -1] })
    (fun t => (t.dist, t.conv)) = some (4001, false) := by decide +kernel

/-! The sequencer, the events and the telemetry (sections 2.6 to 2.8, section 4). -/

theorem test_wait : after (exec .wait base) (fun t => t.ph) = some phStart ∧
    after (exec .wait { base with restart := false }) (fun t => t.ph) = some phWait := by decide +kernel
theorem test_start : after (exec .start { atPhase phStart with w := [1, 2, 3], frame := 2, dla := [1, 2, 3, 4, 5, 6] })
    (fun t => (t.restart, t.w, t.dla, t.frame, t.ph)) =
    some (false, [0, 0, 0], [0, 0, 0, 0, 0, 0], 0, phGen) := by decide +kernel
theorem test_start_latches : after (exec .start { atPhase phStart with mu := 28000, power := 2000, muRun := 1 })
    (fun t => (t.muRun, t.powerRun)) = some (28000, 2000) := by decide +kernel
theorem test_nextf : after (exec .nextf (atPhase phNextf)) (fun t => (t.frame, t.ph)) = some (1, phGen) ∧
    after (exec .nextf { atPhase phNextf with frame := 1, txidx := 5 }) (fun t => (t.frame, t.txidx, t.ph)) =
      some (2, 0, phTxc) := by decide +kernel
theorem test_txc : after (exec .txc { atPhase phTxc with w := [35, -61, 19], txidx := 2, txReady := true })
    (fun t => (t.txs, t.wire, t.txidx, t.ph)) = some ([(0xC3, false)], [0xC3], 3, phTxc) := by decide +kernel
theorem test_txc_last : after (exec .txc { atPhase phTxc with txidx := 11, txReady := true })
    (fun t => (t.txs, t.txidx, t.ph)) = some ([(0x0F, true)], 0, phTxe) := by decide +kernel
theorem test_txe : after (exec .txe { atPhase phTxe with et := [137851, 255445], txidx := 1, txReady := true })
    (fun t => (t.txs, t.txidx, t.ph)) = some ([(0x86, false)], 2, phTxe) := by decide +kernel
theorem test_txe_last : after (exec .txe { atPhase phTxe with et := [137851, 255445], txidx := 3, txReady := true })
    (fun t => (t.txs, t.txidx, t.ph)) = some ([(0xF9, true)], 0, phWait) := by decide +kernel
theorem test_evnone : after (exec .evnone { base with restart := false }) (fun t => (t.mu, t.power, t.restart)) =
    some (28000, 1000, false) := by decide +kernel
theorem test_evmu : after (exec .evmu { base with mu := 28000, power := 5000, restart := false })
    (fun t => (t.mu, t.power, t.restart)) = some (28000, 5000, true) := by decide +kernel
theorem test_evpow : after (exec .evpow { base with power := 13000, restart := false })
    (fun t => (t.mu, t.power, t.restart)) = some (28000, 16000, true) := by decide +kernel
theorem test_evboth : after (exec .evboth
      { base with cfg := { tiny with muMin := 0, powerMin := 0 }, mu := 0, power := 7, restart := false })
    (fun t => (t.mu, t.power, t.restart)) = some (0, 70, true) := by decide +kernel

/-! Stops. -/

theorem test_reserved_phase : faultOf (exec .gen (atPhase 10)) = some .reservedPhase := by decide +kernel
theorem test_reserved_primitive : refusalOf (step (withLines [.prim 9 0 0])) = some .reservedPrimitive := by decide +kernel
theorem test_wrong_phase : refusalOf (step (withLines [.seq phGen])) = some .illFormedSchedule := by decide +kernel
theorem test_bad_seed : refusalOf (exec .evmu { base with cfg := { tiny with prngSeed := 0 } }) = some .badSeed := by
  decide +kernel

/-! A reset step keeps the bytes already handed over and empties `TXS` (R267). -/

theorem test_reset : after (step { withLines [.rst] with wire := [1], txs := [(1, false)], ph := phTxc, mu := 28000 })
    (fun t => (t.wire, t.txs, t.ph, t.restart, t.power)) = some ([1], [], phWait, true, 1000) := by decide +kernel

/-! Witnesses: concrete states and operands that meet the hypotheses of each statement together. -/

theorem test_witness_EncodeDecodeAgree : decode (.p 8#4) = .ok .amean ∧ decode (.s 9#4) = .ok .txe ∧
    (Code.p 8#4).wf = true := ⟨rfl, rfl, rfl⟩

theorem test_witness_RoundingIsHalfUp : (49152 : Int) % 32768 = 16384 ∧ (16383 : Int) ≤ 16384 := by decide

theorem test_witness_SaturationClampsToSample : (-32769 : Int) < -32768 ∧ (32767 : Int) < 32768 ∧
    (-32768 : Int) ≤ -32768 ∧ (-32768 : Int) ≤ 32767 ∧ (32767 : Int) ≤ 32767 := by decide

/-- A legal state, the hypothesis of the statements about primitives and events. -/
theorem test_witness_legal : legal base := by and_intros <;> decide +kernel

theorem test_witness_MaccAddsExactProduct : (0 : Sample) = 0 ∨ (5 : Sample) = 0 := by decide

theorem test_witness_AsclScalesAccumulator : (1073692672 : Int) ≤ (1073692672 : Acc).toInt ∧
    (-1073725441 : Acc).toInt < -1073725440 := by decide

theorem test_witness_UminTakesSmaller : (32767 : Sample).toNat ≤ 32767 ∧ (0 : Sample).toNat ≤ 32767 := by decide

theorem test_witness_AmeanDividesAndClamps : 0 < 100 ∧ 0 ≤ (0 : Acc).toInt ∧ 0 ≤ (549755813887 : Acc).toInt := by decide

/-- At the boundary of the exact clauses, and above it, where the accumulator saturates. -/
theorem test_witness_DotProductIsExactSum :
    (511 < 512 ∧ (∀ i < 511, |(fun _ => -2 ^ 30 : Nat → Int) i| ≤ 2 ^ 30) ∧
      (List.replicate 511 (32767 : Sample)).length = 511 ∧ 511 ≤ (List.replicate 511 (-32768 : Sample)).length) ∧
    (List.replicate 600 (-32768 : Sample)).length = 600 ∧ 600 ≤ (List.replicate 600 (-32768 : Sample)).length :=
  ⟨⟨by decide, fun _ _ => by norm_num, List.length_replicate, by rw [List.length_replicate]⟩, List.length_replicate,
    by rw [List.length_replicate]⟩

theorem test_witness_EvmuStepsMuAndRaisesRestart :
    (legal base ∧ (∃ t, exec .evmu base = .next t) ∧ base.mu = 28000) ∧
    ∃ s, legal s ∧ (∃ t, exec .evmu s = .next t) ∧ s.mu = 0 :=
  ⟨⟨by decide +kernel, exists_of_answers (by decide +kernel), rfl⟩,
    { base with cfg := { tiny with muMin := 0 }, mu := 0 }, by decide +kernel,
    exists_of_answers (by decide +kernel), rfl⟩

theorem test_witness_EvpowStepsPowerAndRaisesRestart :
    (∃ s, legal s ∧ (∃ t, exec .evpow s = .next t) ∧ s.power = 28000) ∧
    ∃ s, legal s ∧ (∃ t, exec .evpow s = .next t) ∧ s.power = 0 :=
  ⟨⟨{ base with power := 28000 }, by decide +kernel, exists_of_answers (by decide +kernel), rfl⟩,
    { base with cfg := { tiny with powerMin := 0 }, power := 0 }, by decide +kernel,
    exists_of_answers (by decide +kernel), rfl⟩

theorem test_witness_StaircaseRule : 9999 < 10000 ∧ 10000 ≤ 10000 ∧ 10000 ≤ 28000 ∧ 28000 ≤ 28000 := by decide

theorem test_witness_StaircaseRisesToCeiling : 0 ≤ 28000 ∧ 28000 ≤ 28000 ∧ 1 ≤ 1 ∧ 1 ≤ 28000 := by decide

theorem test_witness_OnlyResetLowersParameters : resets (nextLine (withLines [.ev 1])) = false ∧
    ∃ t, step (withLines [.ev 1]) = .next t :=
  ⟨rfl, exists_of_answers (by decide +kernel)⟩

theorem test_witness_WaitGoesOnOrHolds : (legal base ∧ base.ph = phWait ∧ base.restart = true) ∧
    (legal { base with restart := false } ∧ { base with restart := false }.ph = phWait) := by and_intros <;> decide +kernel

theorem test_witness_StartBeginsRun : legal (atPhase phStart) ∧ (atPhase phStart).ph = phStart := by and_intros <;> decide +kernel

/-- Both clauses: frame 1 is the last of 2, frame 0 is not. -/
theorem test_witness_NextfCountsFrame :
    (let s : State := { atPhase phNextf with frame := 1 };
      legal s ∧ s.ph = phNextf ∧ s.frame.toNat + 1 = s.cfg.numFrames) ∧
    (let s : State := atPhase phNextf;
      legal s ∧ s.ph = phNextf ∧ s.frame.toNat + 1 < s.cfg.numFrames) := by and_intros <;> decide +kernel

theorem test_witness_GenFillsBlock : legal (atPhase phGen) ∧ (atPhase phGen).ph = phGen := by and_intros <;> decide +kernel

theorem test_witness_InputBoundedByPower :
    let s : State := { atPhase phGen with powerRun := 28000 }
    legal s ∧ s.ph = phGen ∧ s.powerRun.toNat ≤ 28000 := by and_intros <;> decide +kernel

theorem test_witness_PlantIsFirResponse : legal (atPhase phPlant) ∧ (atPhase phPlant).ph = phPlant ∧
    (atPhase phPlant).cfg.taps < 512 ∧ 3 < (atPhase phPlant).cfg.block := by and_intros <;> decide +kernel

theorem test_witness_AdaptIsLmsRecurrence : legal (atPhase phAdapt) ∧ (atPhase phAdapt).ph = phAdapt ∧
    (atPhase phAdapt).cfg.taps < 512 ∧ 3 < (atPhase phAdapt).cfg.block := by and_intros <;> decide +kernel

theorem test_witness_ZeroMuKeepsCoefficients :
    let s : State := { atPhase phAdapt with muRun := 0 }
    legal s ∧ s.ph = phAdapt ∧ s.muRun = 0 := by and_intros <;> decide +kernel

theorem test_witness_ZeroInputKeepsCoefficients :
    let s : State := { atPhase phAdapt with xb := List.replicate 4 0 }
    legal s ∧ s.ph = phAdapt ∧ (∀ x ∈ s.xb, x = 0) ∧ (∀ x ∈ s.dla, x = 0) :=
  ⟨by decide +kernel, rfl, fun _ h => List.eq_of_mem_replicate h, fun _ h => List.eq_of_mem_replicate h⟩

theorem test_witness_ConvergedFilterStaysConverged :
    let s : State := { atPhase phPlant with
      w := [8000, -16000, 4000], dla := [1, 2, 3, 4, 5, 6], dlp := [1, 2, 3, 4, 5, 6] }
    legal s ∧ s.ph = phPlant ∧ s.w = s.cfg.hCoef ∧ s.dla = s.dlp := by
  and_intros <;> decide +kernel

theorem test_witness_DelayLinesStayEqual : legal (atPhase phPlant) ∧
    (atPhase phPlant).ph = phPlant ∧ (atPhase phPlant).dla = (atPhase phPlant).dlp := by
  and_intros <;> decide +kernel

theorem test_witness_MseStoresClampedMean :
    let s : State := { atPhase phMse with frame := 1 }
    legal s ∧ s.ph = phMse ∧ s.cfg.block < 512 := by and_intros <;> decide +kernel

theorem test_witness_DistIsSmallestTapDistance : legal (atPhase phDist) ∧
    (atPhase phDist).ph = phDist ∧ 0 < (atPhase phDist).cfg.taps ∧ 2 < (atPhase phDist).cfg.taps := by and_intros <;> decide +kernel

/-- The three clauses: not ready; a byte before the last, at the last place it can be; the last byte. -/
theorem test_witness_TxcSendsOneByte :
    (legal (atPhase phTxc) ∧ (atPhase phTxc).ph = phTxc ∧ (atPhase phTxc).txReady = false) ∧
    (let s : State := { atPhase phTxc with txReady := true, txidx := 10 };
      legal s ∧ s.ph = phTxc ∧ s.txReady = true ∧ s.txidx.toNat + 1 < 4 * s.cfg.taps) ∧
    (let s : State := { atPhase phTxc with txReady := true, txidx := 11 };
      legal s ∧ s.ph = phTxc ∧ s.txReady = true ∧ s.txidx.toNat + 1 = 4 * s.cfg.taps) := by
  and_intros <;> decide +kernel

theorem test_witness_TxeSendsOneByte :
    (legal (atPhase phTxe) ∧ (atPhase phTxe).ph = phTxe ∧ (atPhase phTxe).txReady = false) ∧
    (let s : State := { atPhase phTxe with txReady := true, txidx := 2 };
      legal s ∧ s.ph = phTxe ∧ s.txReady = true ∧ s.txidx.toNat + 1 < 2 * s.cfg.numFrames) ∧
    (let s : State := { atPhase phTxe with txReady := true, txidx := 3 };
      legal s ∧ s.ph = phTxe ∧ s.txReady = true ∧ s.txidx.toNat + 1 = 2 * s.cfg.numFrames) := by
  and_intros <;> decide +kernel

theorem test_witness_CoefficientBytesAtTheirOffsets : legal base ∧ 0 < base.cfg.taps ∧ 2 < base.cfg.taps := by
  and_intros <;> decide +kernel

theorem test_witness_CoefficientFrameIsSentWhole :
    let s : State := { atPhase phTxc with sched := rep 12 [.seq phTxc] ++ [.rst] }
    legal s ∧ s.ph = phTxc ∧ s.txidx = 0 ∧ s.sched = rep (4 * s.cfg.taps) [.seq phTxc] ++ [.rst] := by
  and_intros <;> decide +kernel

theorem test_witness_ErrorFrameIsSentWhole :
    let s : State := { atPhase phTxe with sched := rep 4 [.seq phTxe] ++ [.rst] }
    legal s ∧ s.ph = phTxe ∧ s.txidx = 0 ∧ s.sched = rep (2 * s.cfg.numFrames) [.seq phTxe] ++ [.rst] := by
  and_intros <;> decide +kernel

/-- The three clauses: a `SEQ` line (of `WAIT`, the one with a condition), an event line, a primitive's line. -/
theorem test_witness_StepRunsDecodedOperation :
    ((withLines [.seq phWait]).sched = .seq (withLines [.seq phWait]).ph :: [] ∧
      decode (.s (withLines [.seq phWait]).ph) = .ok .wait ∧ (withLines [.seq phWait]).restart = true) ∧
    ((withLines [.ev 2]).sched = .ev 2 :: [] ∧ decode (.e 2) = .ok .evpow) ∧
    ((withLines [.prim 8 0 0]).sched = .prim 8 0 0 :: [] ∧ decode (.p 8) = .ok .amean) :=
  ⟨⟨rfl, rfl, rfl⟩, ⟨rfl, rfl⟩, rfl, rfl⟩

/-- One clocked step of each kind: of `START` with an event, of `TXC` by the byte that moves, and the event alone, in `GEN` and
in a stall. -/
theorem test_witness_ClockedEventComesAfterOperation :
    (let s : State := { atPhase phStart with sched := [.clock ⟨false, true, false, true, true⟩] };
      legal s ∧ s.ph = phStart ∧ s.sched = .clock ⟨false, true, false, true, true⟩ :: [] ∧
      (decode (.s s.ph)).toOption = some .start ∧
      (decode (.e (BitVec.ofBool false ++ BitVec.ofBool true))).toOption = some .evmu) ∧
    (let s : State := { atPhase phTxc with sched := [.clock ⟨false, false, true, true, false⟩] };
      legal s ∧ s.ph = phTxc ∧ s.sched = .clock ⟨false, false, true, true, false⟩ :: [] ∧
      (decode (.s s.ph)).toOption = some .txc ∧
      (decode (.e (BitVec.ofBool true ++ BitVec.ofBool false))).toOption = some .evpow) ∧
    (let s : State := { atPhase phGen with sched := [.clock ⟨false, true, true, true, false⟩] };
      legal s ∧ s.ph ≠ phTxc ∧ s.ph ≠ phTxe ∧ s.sched = .clock ⟨false, true, true, true, false⟩ :: [] ∧
      (decode (.e (BitVec.ofBool true ++ BitVec.ofBool true))).toOption = some .evboth) ∧
    (let s : State := { atPhase phTxe with sched := [.clock ⟨false, false, false, false, false⟩] };
      legal s ∧ s.ph = phTxe ∧ s.sched = .clock ⟨false, false, false, false, false⟩ :: [] ∧
      (decode (.e (BitVec.ofBool false ++ BitVec.ofBool false))).toOption = some .evnone) := by
  and_intros <;> decide +kernel

theorem test_witness_StepKeepsInvariant : (withLines [.ev 3]).Inv ∧ ∃ t, step (withLines [.ev 3]) = .next t :=
  ⟨⟨by decide +kernel, by decide, by decide⟩, exists_of_answers (by decide +kernel)⟩

/-- Boundary sizes: the hardware's least and most frames, the smallest test instance, and the most frames and taps of one. -/
theorem test_witness_ResetHasInvariant :
    configLegal Config.testDefault ∧ configLegal { Config.testDefault with numFrames := 10000 } ∧
    configLegal { tiny with taps := 1, block := 1, numFrames := 1, hCoef := [5], wInit := [0] } ∧
    configLegal { tiny with numFrames := 16383, block := 100000 } ∧
    configLegal { tiny with taps := 8192, hCoef := List.replicate 8192 1, wInit := List.replicate 8192 0 } := by
  and_intros <;> decide +kernel

theorem test_witness_ResetStepLeavesResetValues :
    (configLegal (withLines [.rst]).cfg ∧ (withLines [.rst]).sched = .rst :: [] ∧ resets .rst = true) ∧
    resets (.clock ⟨true, true, true, true, true⟩) = true := by
  and_intros <;> decide +kernel

/-- In `MSE` of frame 1 of 2: everything but that frame's and later error values is written, and they differ. -/
theorem test_witness_UnwrittenElementsNeverMatter :
    (let s : State := { atPhase phMse with frame := 1, et := [7, 8], sched := [.seq phMse] };
      AgreeWhereWritten s { s with et := [7, 9] } ∧ ∃ t, step s = .next t) ∧
    tiny.block = [1, 2, 3, (4 : Sample)].length ∧ tiny.numFrames = [5, (6 : ErrVal)].length :=
  ⟨⟨⟨_, _, _, _, _, _, [7, 9], rfl, ⟨rfl, rfl, rfl, rfl, rfl⟩, fun _ => ⟨rfl, rfl, rfl⟩, fun _ => rfl, fun _ => rfl,
      fun _ => ⟨rfl, rfl⟩, fun h => absurd h (by decide), fun h => absurd h (by decide)⟩,
    exists_of_answers (by decide +kernel)⟩, rfl, rfl⟩

/-- A `SEQ` line that the spec lets happen; for the other kinds of line the two conditions say nothing. -/
theorem test_witness_WellFormedStepsComplete :
    (withLines [.seq phWait]).Inv ∧
    (∀ p, nextLine (withLines [.seq phWait]) = .seq p →
      p = (withLines [.seq phWait]).ph ∧
        ((withLines [.seq phWait]).ph = phWait → (withLines [.seq phWait]).restart = true)) ∧
    (∀ fn a b, nextLine (withLines [.seq phWait]) = .prim fn a b → fn.toNat ≤ 8) := by
  refine ⟨⟨by decide +kernel, by decide, by decide⟩, fun p h => ?_, fun fn a b h => ?_⟩
  · injection h with h
    exact ⟨h.symm, fun _ => rfl⟩
  · cases h

theorem test_witness_ReservedPhaseFaults :
    (configLegal (atPhase 10).cfg ∧ storeLengths (atPhase 10) ∧ 10 ≤ (atPhase 10).ph.toNat) ∧
    (storeLengths (atPhase 15) ∧ 10 ≤ (atPhase 15).ph.toNat) ∧
    { atPhase 15 with sched := [.seq 15] }.sched = .seq 15 :: [] := by
  and_intros <;> decide +kernel

/-- One state for each of the six reasons. -/
theorem test_witness_IllFormedConfigurationRefused :
    ({ tiny with postShift := 1 } : Config).postShift ≠ 0 ∧
    (let c : Config := { tiny with prngSeed := 0 };
      c.postShift = 0 ∧ c.prngSeed = 0) ∧
    (let c : Config := { tiny with wInit := [0, 0] };
      c.postShift = 0 ∧ c.prngSeed ≠ 0 ∧ ¬ configLengths c) ∧
    (let c : Config := { tiny with muMin := 28001 };
      c.postShift = 0 ∧ c.prngSeed ≠ 0 ∧ configLengths c ∧ ¬ configRanges c) ∧
    (let s : State := { base with xb := [] };
      configLegal s.cfg ∧ ¬ storeLengths s) ∧
    (let s : State := { base with prng := 0 };
      configLegal s.cfg ∧ storeLengths s ∧ phaseLegal s ∧ ¬ stateBounds s) := by
  and_intros <;> decide +kernel

theorem test_witness_SeqLineMustNamePhase :
    (phaseLegal (withLines [.seq phGen]) ∧ (withLines [.seq phGen]).sched = .seq phGen :: [] ∧
      phGen ≠ (withLines [.seq phGen]).ph) ∧
    (let s : State := { withLines [.seq phWait] with restart := false };
      phaseLegal s ∧ s.sched = .seq phWait :: [] ∧ s.ph = phWait ∧ s.restart = false) := by
  and_intros <;> decide +kernel

/-- A legal state in each phase, with both cases of `NEXTF`, and the last byte and the one before it in `TXC` and `TXE`. -/
theorem test_witness_TransitionTable :
    legal base ∧ legal { base with restart := false } ∧ base.ph = phWait ∧
    (∀ p ∈ [phStart, phGen, phPlant, phAdapt, phMse, phDist, phNextf, phTxc, phTxe], legal (atPhase p) ∧ (atPhase p).ph = p) ∧
    (0 + 1 < tiny.numFrames ∧ (atPhase phNextf).frame.toNat = 0) ∧
    (let s : State := { atPhase phNextf with frame := 1 };
      legal s ∧ ¬ s.frame.toNat + 1 < s.cfg.numFrames) ∧
    (let s : State := { atPhase phTxc with txidx := 10 };
      legal s ∧ s.txidx.toNat < 4 * s.cfg.taps - 1) ∧
    (let s : State := { atPhase phTxc with txidx := 11 };
      legal s ∧ s.txidx.toNat = 4 * s.cfg.taps - 1) ∧
    (let s : State := { atPhase phTxe with txidx := 2 };
      legal s ∧ s.txidx.toNat < 2 * s.cfg.numFrames - 1) ∧
    (let s : State := { atPhase phTxe with txidx := 3 };
      legal s ∧ s.txidx.toNat = 2 * s.cfg.numFrames - 1) := by
  and_intros <;> decide +kernel

/-- What the table gives at the two last bytes, with and without the error trace (R216). -/
theorem test_transition_last_bytes :
    after (seqStep true { atPhase phTxc with txidx := 11 }) (fun t => (t.ph, t.txidx)) = some (phTxe, 0) ∧
    after (seqStep true { atPhase phTxc with txidx := 11, cfg := { tiny with errTraceEn := false } })
      (fun t => (t.ph, t.txidx)) = some (phWait, 0) ∧
    after (seqStep true { atPhase phTxe with txidx := 3 }) (fun t => (t.ph, t.txidx)) = some (phWait, 0) := by
  and_intros <;> decide +kernel

/-- An event line, and a clocked step that does not schedule the sequencer, both taken in `START`. -/
theorem test_witness_OnlyStartLoadsLatches :
    (let s : State := { atPhase phStart with sched := [.ev 1] };
      resets (nextLine s) = false ∧ runsStart s = false ∧ ∃ t, step s = .next t) ∧
    (let s : State := { atPhase phStart with sched := [.clock ⟨false, true, false, true, false⟩] };
      resets (nextLine s) = false ∧ runsStart s = false ∧ ∃ t, step s = .next t) :=
  ⟨⟨rfl, rfl, exists_of_answers (by decide +kernel)⟩, rfl, rfl, exists_of_answers (by decide +kernel)⟩

/-- The state in which the event of the next witness happens, and those after the event and after `SEQ WAIT`. -/
def lost0 : State := withLines [.seq phWait]
def lost1 : State := lost0.stepMu.raiseRestart
def lost2 : State := ((lost1.popLine).withReady true).toPhase phStart

theorem lost1_eq : exec .evmu lost0 = .next lost1 := guarded_of_legal (s := lost0) (by decide +kernel) (.next lost1)

theorem lost2_eq : step lost1 = .next lost2 :=
  inPhase_of_legal (s := lost1.popLine.withReady true) (p := phWait) (by decide +kernel) (by decide +kernel) (.next lost2)

/-- The events' clause; the step clause, with `SEQ WAIT` and with an event in the phase `START`; the clause of many steps. -/
theorem test_witness_NoEventIsLost :
    (legal lost0 ∧ exec .evmu lost0 = .next lost1) ∧
    (lost1.restart = true ∧ resets (nextLine lost1) = false ∧ runsStart lost1 = false ∧ step lost1 = .next lost2) ∧
    (let s : State := { atPhase phStart with sched := [.ev 2] };
      s.restart = true ∧ resets (nextLine s) = false ∧ runsStart s = false ∧ ∃ t, step s = .next t) ∧
    (legal lost1 ∧ BeforeStart lost1 lost2 ∧ lost2.ph = phStart) :=
  ⟨⟨by decide +kernel, lost1_eq⟩, ⟨by decide +kernel, by decide +kernel, by decide +kernel, lost2_eq⟩,
    ⟨rfl, rfl, rfl, exists_of_answers (by decide +kernel)⟩, by decide +kernel,
    .tail _ _ _ (.refl _) (by decide +kernel) (by decide +kernel) lost2_eq, by decide +kernel⟩

theorem test_witness_EventsCommuteWithRunOperations :
    legal (atPhase phGen) ∧ (atPhase phGen).ph ≠ phWait ∧ (atPhase phGen).ph ≠ phStart := by
  and_intros <;> decide +kernel

theorem test_witness_BytesLeaveThroughThePort :
    ((atPhase phTxc).ph = phTxc ∧ (atPhase phTxe).ph = phTxe) ∧
    (legal (atPhase phTxc) ∧ ∃ t, seqStep true (atPhase phTxc) = .next t) ∧
    (let s : State := { atPhase phTxe with sched := [.clock ⟨false, true, false, true, false⟩] };
      nextLine s = .clock ⟨false, true, false, true, false⟩ ∧ ∃ t, step s = .next t) ∧
    (let s : State := { atPhase phTxe with sched := [.ev 1] };
      nextLine s = .ev 1 ∧ ∃ t, step s = .next t) ∧
    (let s : State := { atPhase phTxe with sched := [.prim 8 0 0] };
      nextLine s = .prim 8 0 0 ∧ ∃ t, step s = .next t) :=
  ⟨⟨rfl, rfl⟩, ⟨by decide +kernel, exists_of_answers (by decide +kernel)⟩, ⟨rfl, exists_of_answers (by decide +kernel)⟩,
    ⟨rfl, exists_of_answers (by decide +kernel)⟩, rfl, exists_of_answers (by decide +kernel)⟩

/-- A byte moves in a clocked step with the transport ready, scheduled or not (R76); none in a stall. -/
theorem test_clocked_byte :
    after (step { atPhase phTxc with w := [35, -61, 19], txidx := 2, sched := [.clock ⟨false, true, false, true, false⟩] })
      (fun t => (t.txs, t.wire, t.txidx, t.restart)) = some ([(0xC3, false)], [0xC3], 3, true) ∧
    after (step { atPhase phTxc with w := [35, -61, 19], txidx := 2, sched := [.clock ⟨false, true, false, false, true⟩] })
      (fun t => (t.txs, t.wire, t.txidx, t.restart)) = some ([], [], 2, true) := by
  and_intros <;> decide +kernel

/-- The final state, a stall, and a state in which the step is no hold. -/
theorem test_witness_HoldsExactlyWhenWaitingOrStalled :
    (legal { base with restart := false } ∧ { base with restart := false }.Quiescent) ∧
    (legal (atPhase phTxe) ∧ (atPhase phTxe).txValid = true) ∧
    (legal (atPhase phGen) ∧ ¬ (atPhase phGen).Quiescent ∧ (atPhase phGen).txValid = false) :=
  ⟨⟨by decide +kernel, rfl, rfl⟩, ⟨by decide +kernel, rfl⟩, by decide +kernel, fun h => absurd h.1 (by decide), rfl⟩

theorem test_witness_RunSendsBothFrames :
    let s : State := { base with sched := runOps tiny ++ [.rst] }
    s.Inv ∧ s.ph = phWait ∧ s.restart = true ∧ s.sched = runOps s.cfg ++ [.rst] :=
  ⟨⟨by decide +kernel, by decide, by decide⟩, rfl, rfl, rfl⟩

end Sys2Proof.Tests
end

section
/-! PROOFS. 10_state.md: what the state keeps along every step. First the effect of each operation and its
precondition, then the lifting of a property or a relation from the parts of a step to `step`, then the invariant of R48,
the state after reset (R49), and the agreement of states that differ in unwritten elements only (R50, U1). -/

namespace Sys2Proof.Machine

open Sys2Proof.Claims

/-! ### The operations, each as an effect with a precondition -/

/-- The state that operation `i` leaves where it is not stopped. -/
def effect (i : Instr) (s : State) : State :=
  match i with
  | .aclr => { s with acc := 0 }
  | .macc => { s with acc := macc s.acc s.opA s.opB }
  | .ascl => { s with resS := ascl s.acc }
  | .qmul => { s with resS := qmul s.opA s.opB }
  | .sadd => { s with resS := sadd s.opA s.opB }
  | .ssub => { s with resS := ssub s.opA s.opB }
  | .sabs => { s with resS := sabs s.opA }
  | .umin => { s with resS := umin s.tick s.opA s.opB }
  | .amean => { s with resM := amean s.tick s.cfg.block s.acc }
  | .wait => if s.restart then s.toPhase phStart else s
  | .start => s.beginRun
  | .gen => s.genBlock
  | .plant => s.plantBlock
  | .adapt => s.adaptBlock
  | .mse => s.mseBlock
  | .dist => s.distBlock
  | .nextf => s.countFrame
  | .txc => if s.txReady then s.sendCoef else s
  | .txe => if s.txReady then s.sendErr else s
  | .evnone => s
  | .evmu => s.stepMu.raiseRestart
  | .evpow => s.stepPower.raiseRestart
  | .evboth => s.stepMu.stepPower.raiseRestart

/-- The precondition of an operation on the phase: one with an S code needs `PH` to hold that code (log 18). -/
def Enabled (i : Instr) (s : State) : Prop := ∀ p, encode i = .s p → s.ph = p

/-- An operation of the sequencer is its effect in its own phase. -/
theorem exec_of_phase {i : Instr} {p : BitVec 4} (h : encode i = .s p) (s : State) :
    exec i s = inPhase s p (.next (effect i s)) := by
  cases i <;> cases h <;> rfl

/-- Every other operation is its effect in any phase. -/
theorem exec_of_noPhase {i : Instr} (h : ∀ p, encode i ≠ .s p) (s : State) :
    exec i s = guarded s (.next (effect i s)) := by
  cases i
  case wait | start | gen | plant | adapt | mse | dist | nextf | txc | txe => exact absurd rfl (h _)
  all_goals rfl

/-- Everything `exec` can answer `next` to. -/
theorem exec_eq_next_iff {i : Instr} {s t : State} :
    exec i s = .next t ↔ legal s ∧ Enabled i s ∧ t = effect i s := by
  by_cases hi : ∃ p, encode i = .s p
  · obtain ⟨p, hp⟩ := hi
    have hen : Enabled i s ↔ s.ph = p := ⟨fun h => h p hp, fun h q hq => by rw [hp] at hq; cases hq; exact h⟩
    rw [exec_of_phase hp, hen]
    constructor
    · intro h
      obtain ⟨hl, hph, ht⟩ := inPhase_eq_next h
      cases ht
      exact ⟨hl, hph, rfl⟩
    · rintro ⟨hl, hph, rfl⟩
      exact inPhase_of_legal hl hph _
  · have hno : ∀ p, encode i ≠ .s p := fun p hp => hi ⟨p, hp⟩
    rw [exec_of_noPhase hno]
    constructor
    · intro h
      obtain ⟨hl, ht⟩ := guarded_eq_next h
      cases ht
      exact ⟨hl, fun p hp => absurd hp (hno p), rfl⟩
    · rintro ⟨hl, -, rfl⟩
      exact guarded_of_legal hl _

theorem exec_of_legal {i : Instr} {s : State} (h : legal s) (hi : Enabled i s) : exec i s = .next (effect i s) :=
  exec_eq_next_iff.2 ⟨h, hi, rfl⟩

/-! ### From the operations to a step -/

/-- From two states in `R`, whenever `f` answers a next state for the first it answers one for the second, and these are in
`R` again. -/
def Carries (R : State → State → Prop) (f : State → Result) : Prop :=
  ∀ s s' t, R s s' → f s = .next t → ∃ t', f s' = .next t' ∧ R t t'

/-- What a relation needs for every step to carry it: related states have the same fields that choose the operation, and
each part of a step carries the relation. -/
structure StepRelation (R : State → State → Prop) : Prop where
  ph : ∀ {s s'}, R s s' → s'.ph = s.ph
  restart : ∀ {s s'}, R s s' → s'.restart = s.restart
  sched : ∀ {s s'}, R s s' → s'.sched = s.sched
  tick : ∀ {s s'}, R s s' → s'.tick = s.tick
  popLine : ∀ {s s'}, R s s' → R s.popLine s'.popLine
  withReady : ∀ {s s'} (r : Bool), R s s' → R (s.withReady r) (s'.withReady r)
  withOperands : ∀ {s s'} (a b : Sample), R s s' → R (s.withOperands a b) (s'.withOperands a b)
  exec : ∀ i, Carries R (exec i)
  reset : Carries R resetStep

section
variable {R : State → State → Prop}

theorem Carries.andThen {f g : State → Result} (hf : Carries R f) (hg : Carries R g) :
    Carries R fun s => andThen (f s) g := by
  intro s s' t hs h
  obtain ⟨u, hu, ht⟩ := andThen_eq_next h
  obtain ⟨u', hu', hr⟩ := hf s s' u hs hu
  obtain ⟨t', ht', hr'⟩ := hg u u' t hr ht
  exact ⟨t', by simp only [hu', andThen_next, ht'], hr'⟩

theorem StepRelation.seqStep (hR : StepRelation R) (ready : Bool) : Carries R (seqStep ready) := by
  intro s s' t hs h
  unfold Machine.seqStep at h ⊢
  rw [hR.ph hs]
  split at h
  · exact hR.exec _ _ _ t (hR.withReady ready hs) h
  · obtain ⟨-, h⟩ := guarded_eq_next h
    cases h

theorem StepRelation.runSeqLine (hR : StepRelation R) (p : BitVec 4) : Carries R (runSeqLine p) := by
  intro s s' t hs h
  unfold Machine.runSeqLine phaseLegal at h ⊢
  rw [hR.ph hs, hR.restart hs]
  split_ifs at h ⊢
  exact hR.seqStep true s s' t hs h

theorem StepRelation.runPrimLine (hR : StepRelation R) (fn : BitVec 4) (a b : Sample) :
    Carries R (runPrimLine fn a b) := by
  intro s s' t hs h
  unfold Machine.runPrimLine at h ⊢
  split at h
  · exact hR.exec _ _ _ t (hR.withOperands a b hs) h
  · cases h

theorem StepRelation.runClock (hR : StepRelation R) (inp : StepInput) : Carries R (runClock inp) := by
  intro s s' t hs h
  cases hrst : inp.rst with
  | true =>
    rw [runClock_of_rst hrst] at h ⊢
    exact hR.reset s s' t hs h
  | false =>
    have hacts : seqActs inp s' = seqActs inp s := by simp only [seqActs, State.txValid, hR.ph hs]
    by_cases ha : seqActs inp s = true
    · rw [runClock_of_acts hrst ha] at h
      rw [runClock_of_acts hrst (hacts.trans ha)]
      exact (hR.seqStep inp.txReady).andThen (hR.exec _) s s' t hs h
    · rw [runClock_of_event hrst ha] at h
      rw [runClock_of_event hrst (hacts ▸ ha)]
      exact hR.exec _ _ _ t (hR.withReady inp.txReady hs) h

theorem StepRelation.runLine (hR : StepRelation R) (l : Line) : Carries R (runLine l) := by
  cases l with
  | rst => exact hR.reset
  | seq p => exact hR.runSeqLine p
  | ev code => exact hR.exec _
  | prim fn a b => exact hR.runPrimLine fn a b
  | clock inp => exact hR.runClock inp

theorem StepRelation.step (hR : StepRelation R) : Carries R step := by
  intro s s' t hs h
  have hline : nextLine s' = nextLine s := by simp only [nextLine, hR.sched hs, hR.tick hs]
  unfold Machine.step at h ⊢
  rw [hline]
  exact hR.runLine _ _ _ t (hR.popLine hs) h

end

/-- A property that the parts of a step keep is kept by every step. -/
theorem step_keeps (P : State → Prop) (hpop : ∀ s, P s → P s.popLine) (hready : ∀ s r, P s → P (s.withReady r))
    (hops : ∀ s a b, P s → P (s.withOperands a b)) (hexec : ∀ i s t, P s → exec i s = .next t → P t)
    (hreset : ∀ s t, P s → resetStep s = .next t → P t) {s t : State} (hs : P s) (h : step s = .next t) : P t := by
  have hR : StepRelation fun u u' => u' = u ∧ P u :=
    { ph := by rintro s _ ⟨rfl, -⟩; rfl
      restart := by rintro s _ ⟨rfl, -⟩; rfl
      sched := by rintro s _ ⟨rfl, -⟩; rfl
      tick := by rintro s _ ⟨rfl, -⟩; rfl
      popLine := by rintro s _ ⟨rfl, hp⟩; exact ⟨rfl, hpop _ hp⟩
      withReady := by rintro s _ r ⟨rfl, hp⟩; exact ⟨rfl, hready _ r hp⟩
      withOperands := by rintro s _ a b ⟨rfl, hp⟩; exact ⟨rfl, hops _ a b hp⟩
      exec := by rintro i s _ t ⟨rfl, hp⟩ ht; exact ⟨t, ht, rfl, hexec i _ t hp ht⟩
      reset := by rintro s _ t ⟨rfl, hp⟩ ht; exact ⟨t, ht, rfl, hreset _ t hp ht⟩ }
  obtain ⟨-, -, -, hp⟩ := hR.step s s t ⟨rfl, hs⟩ h
  exact hp

/-! ### The generator word never becomes 0 -/

theorem eq_zero_of_eq_shiftLeft {n k : Nat} {x : BitVec n} (hk : 0 < k) (h : x = x <<< k) : x = 0#n := by
  have hbit : ∀ i, x.getLsbD i = false := by
    intro i
    induction i using Nat.strong_induction_on with
    | _ i ih =>
      rw [h, BitVec.getLsbD_shiftLeft]
      by_cases hik : i < k
      · simp [hik]
      · simp [ih (i - k) (by omega)]
  exact BitVec.eq_of_getLsbD_eq fun i _ => by simp [hbit i]

theorem eq_zero_of_eq_ushiftRight {n k : Nat} {x : BitVec n} (hk : 0 < k) (h : x = x >>> k) : x = 0#n := by
  have hdiv : x.toNat = x.toNat / 2 ^ k := by
    rw [← Nat.shiftRight_eq_div_pow, ← BitVec.toNat_ushiftRight, ← h]
  have hzero : x.toNat = 0 := by
    by_contra hne
    have := Nat.div_lt_self (Nat.pos_of_ne_zero hne) (Nat.one_lt_two_pow hk.ne')
    omega
  exact BitVec.eq_of_toNat_eq (by simpa using hzero)

/-- The generator's step gives 0 from 0 only: each of its three shifts can be undone (R156). -/
theorem prns_ne_zero {g : GenWord} (h : g ≠ 0) : prns g ≠ 0 := by
  intro h0
  have hb := eq_zero_of_eq_shiftLeft (by decide) (BitVec.xor_eq_zero_iff.1 h0)
  have ha := eq_zero_of_eq_ushiftRight (by decide) (BitVec.xor_eq_zero_iff.1 hb)
  exact h (eq_zero_of_eq_shiftLeft (by decide) (BitVec.xor_eq_zero_iff.1 ha))

theorem genRun_prng_ne_zero (p : Sample) (n : Nat) {g : GenWord} (h : g ≠ 0) : (genRun p n g).prng ≠ 0 := by
  induction n generalizing g with
  | zero => exact h
  | succ n ih => exact ih (prns_ne_zero h)

/-! ### The distance is a raw value from 0 to 32767 -/

theorem sabs_toNat_le (a : Sample) : (sabs a).toNat ≤ 32767 := by
  have hnonneg : 0 ≤ (sabs a).toInt := by
    have := abs_nonneg a.toInt
    rw [sabs_toInt, sat16]
    split_ifs <;> omega
  have := BitVec.toInt_pos_iff.1 hnonneg
  omega

theorem umin_toNat_le (tick : Nat) {a b : Sample} (ha : a.toNat ≤ 32767) (hb : b.toNat ≤ 32767) :
    (umin tick a b).toNat ≤ 32767 := by
  rw [umin, if_pos ⟨ha, hb⟩]
  split_ifs <;> assumption

theorem tapDistance_toNat_le (tick : Nat) (h w : List Sample) {m : Sample} (hm : m.toNat ≤ 32767) :
    (tapDistance tick h w m).toNat ≤ 32767 := by
  induction h generalizing w m with
  | nil => exact hm
  | cons x xs ih =>
    cases w with
    | nil => exact hm
    | cons y ys => exact ih ys (umin_toNat_le tick hm (sabs_toNat_le _))

/-! ### Every effect keeps the state legal -/

/-- In a frame the counter has not reached `NUMFRAMES` (R48 item 7). -/
theorem frame_lt_of_ph {s : State} (h : legal s) {p : BitVec 4} (hph : s.ph = p) (hp : 2 ≤ p.toNat ∧ p.toNat ≤ 7) :
    s.frame.toNat < s.cfg.numFrames := by
  obtain ⟨-, -, -, -, -, -, hlt, -⟩ := h
  exact hlt (by rwa [inFrame, hph])

/-- What an effect that ends inside a frame has to show: the bounds that speak of telemetry are not at stake. -/
theorem legal_of_inFrame {s t : State} (h : legal s) (p : BitVec 4) (hph : t.ph = p) (hp : 2 ≤ p.toNat ∧ p.toNat ≤ 7)
    (hf : t.frame.toNat < t.cfg.numFrames)
    (hkeep : t.cfg = s.cfg ∧ t.mu = s.mu ∧ t.power = s.power ∧ t.txidx = s.txidx) (hlen : storeLengths t)
    (hprng : t.prng ≠ 0)
    (hdist : t.dist.toNat ≤ 32767 ∧ (t.conv = true ↔ t.dist.toNat < t.cfg.distThreshold)) : legal t := by
  obtain ⟨hc, -, -, hmu, hpow, -, -, htx, -, -, -, -, -⟩ := h
  obtain ⟨ec, em, ep, ex⟩ := hkeep
  have htxc : t.ph ≠ phTxc := by rw [hph]; rintro rfl; simp at hp
  have htxe : t.ph ≠ phTxe := by rw [hph]; rintro rfl; simp at hp
  have hle : t.ph.toNat ≤ 9 := by rw [hph]; omega
  exact ⟨ec ▸ hc, hlen, hle, by rwa [ec, em], by rwa [ec, ep], hf.le, fun _ => hf, by rwa [ec, ex],
    fun e => absurd e htxc, fun e => absurd e htxe, hprng, hdist⟩

/-- What a move of the phase to one outside a frame has to show, `TXIDX` moving with it. -/
theorem legal_of_move {s : State} (h : legal s) {f : BitVec 14} {k : BitVec 15} {p : BitVec 4}
    (txs : List (Byte × Bool)) (wire : List Byte) (hp : p = phWait ∨ p = phStart ∨ p = phTxc ∨ p = phTxe)
    (hf : f.toNat ≤ s.cfg.numFrames) (hk : k.toNat < max s.cfg.coefFrameLen s.cfg.errFrameLen)
    (hkc : p = phTxc → k.toNat < s.cfg.coefFrameLen) (hke : p = phTxe → k.toNat < s.cfg.errFrameLen) :
    legal { s with frame := f, txidx := k, ph := p, txs := txs, wire := wire } := by
  obtain ⟨hc, hlen, -, hmu, hpow, -, -, -, -, -, hprng, hdist⟩ := h
  have hlegal : p.toNat ≤ 9 ∧ ¬ (2 ≤ p.toNat ∧ p.toNat ≤ 7) := by
    rcases hp with rfl | rfl | rfl | rfl <;> decide
  exact ⟨hc, hlen, hlegal.1, hmu, hpow, hf, fun hin => absurd hin hlegal.2, hk, hkc, hke, hprng, hdist⟩

/-- Both telemetry frames hold a byte at index 0 (R197, R200). -/
theorem frameLens_pos {s : State} (h : legal s) : 0 < s.cfg.coefFrameLen ∧ 0 < s.cfg.errFrameLen := by
  obtain ⟨⟨htaps, -⟩, -, hframes, -⟩ := configLegal_sizes h.1
  simp only [Config.coefFrameLen, Config.errFrameLen]
  omega

theorem legal_stepMu {s : State} (h : legal s) : legal s.stepMu := by
  obtain ⟨hc, hlen, hp, ⟨hmin, hmax⟩, hrest⟩ := h
  refine ⟨hc, hlen, hp, ⟨?_, ?_⟩, hrest⟩
  · simpa using hmin.trans (le_stair hmax)
  · simpa using stair_le s.mu.toNat

theorem legal_stepPower {s : State} (h : legal s) : legal s.stepPower := by
  obtain ⟨hc, hlen, hp, hmu, ⟨hmin, hmax⟩, hrest⟩ := h
  refine ⟨hc, hlen, hp, hmu, ⟨?_, ?_⟩, hrest⟩
  · simpa using hmin.trans (le_stair hmax)
  · simpa using stair_le s.power.toNat

theorem legal_toStart {s : State} (h : legal s) : legal (s.toPhase phStart) := by
  obtain ⟨-, -, -, -, -, hf, -, hk, -⟩ := id h
  have htxc : phStart ≠ phTxc := by decide
  have htxe : phStart ≠ phTxe := by decide
  exact legal_of_move h s.txs s.wire (.inr (.inl rfl)) hf hk (fun e => absurd e htxc) (fun e => absurd e htxe)

theorem legal_beginRun {s : State} (h : legal s) : legal s.beginRun := by
  obtain ⟨hc, ⟨-, -, -, hstores⟩, -, -, -, -, -, -, -, -, hprng, -, -⟩ := id h
  obtain ⟨-, -, ⟨-, hw⟩, -, -, -, hthr, -⟩ := id hc
  obtain ⟨-, -, hframes, -⟩ := configLegal_sizes hc
  refine legal_of_inFrame h phGen rfl (by decide) hframes ⟨rfl, rfl, rfl, rfl⟩ ⟨hw, ?_, ?_, hstores⟩ hprng ⟨le_rfl, ?_⟩
  · exact List.length_replicate
  · exact List.length_replicate
  · simpa using hthr

theorem legal_genBlock {s : State} (h : legal s) (hph : s.ph = phGen) : legal s.genBlock := by
  have hlt := frame_lt_of_ph h hph (by decide)
  obtain ⟨-, ⟨hw, hp, ha, -, hstores⟩, -, -, -, -, -, -, -, -, hprng, hdist⟩ := id h
  refine legal_of_inFrame h phPlant rfl (by decide) hlt ⟨rfl, rfl, rfl, rfl⟩
    ⟨hw, hp, ha, genRun_out_length _ _ _, hstores⟩ (genRun_prng_ne_zero _ _ hprng) hdist

theorem legal_plantBlock {s : State} (h : legal s) (hph : s.ph = phPlant) : legal s.plantBlock := by
  have hlt := frame_lt_of_ph h hph (by decide)
  obtain ⟨-, ⟨hw, hp, ha, hx, -, hstores⟩, -, -, -, -, -, -, -, -, hprng, hdist⟩ := id h
  refine legal_of_inFrame h phAdapt rfl (by decide) hlt ⟨rfl, rfl, rfl, rfl⟩
    ⟨hw, (plantRun_dlp_length _ _ _ _).trans hp, ha, hx, (plantRun_out_length _ _ _ _).trans hx, hstores⟩ hprng hdist

theorem legal_adaptBlock {s : State} (h : legal s) (hph : s.ph = phAdapt) : legal s.adaptBlock := by
  have hlt := frame_lt_of_ph h hph (by decide)
  obtain ⟨hc, ⟨hw, hp, ha, hx, hd, -, -, het⟩, -, -, -, -, -, -, -, -, hprng, hdist⟩ := id h
  obtain ⟨-, htaps, -⟩ := configLegal_lineLen hc
  obtain ⟨hw', ha', hy', he'⟩ :=
    lmsRun_lengths s.muRun s.xb s.db s.w s.dla s.acc (hd.trans hx.symm) (by rwa [hw, ha])
  refine legal_of_inFrame h phMse rfl (by decide) hlt ⟨rfl, rfl, rfl, rfl⟩
    ⟨hw'.trans hw, hp, ha'.trans ha, hx, hd, hy'.trans hx, he'.trans hx, het⟩ hprng hdist

theorem legal_mseBlock {s : State} (h : legal s) (hph : s.ph = phMse) : legal s.mseBlock := by
  have hlt := frame_lt_of_ph h hph (by decide)
  obtain ⟨-, ⟨hw, hp, ha, hx, hd, hy, he, het⟩, -, -, -, -, -, -, -, -, hprng, hdist⟩ := id h
  refine legal_of_inFrame h phDist rfl (by decide) hlt ⟨rfl, rfl, rfl, rfl⟩
    ⟨hw, hp, ha, hx, hd, hy, he, List.length_set.trans het⟩ hprng hdist

theorem legal_distBlock {s : State} (h : legal s) (hph : s.ph = phDist) : legal s.distBlock := by
  have hlt := frame_lt_of_ph h hph (by decide)
  obtain ⟨-, hlen, -, -, -, -, -, -, -, -, hprng, -⟩ := id h
  refine legal_of_inFrame h phNextf rfl (by decide) hlt ⟨rfl, rfl, rfl, rfl⟩ hlen hprng
    ⟨tapDistance_toNat_le _ _ _ (by decide), decide_eq_true_iff⟩

theorem legal_countFrame {s : State} (h : legal s) (hph : s.ph = phNextf) : legal s.countFrame := by
  have hlt := frame_lt_of_ph h hph (by decide)
  have hsucc := frame_succ_toNat h hlt
  obtain ⟨hcoef, herr⟩ := frameLens_pos h
  by_cases hlast : (s.frame + 1).toNat = s.cfg.numFrames
  · rw [State.countFrame_of_last hlast]
    exact legal_of_move h s.txs s.wire (.inr (.inr (.inl rfl))) hlast.le (lt_max_of_lt_left hcoef) (fun _ => hcoef)
      (fun _ => herr)
  · rw [State.countFrame_of_more hlast]
    obtain ⟨-, hlen, -, -, -, -, -, -, -, -, hprng, hdist⟩ := id h
    have hmore : (s.frame + 1).toNat < s.cfg.numFrames := by omega
    exact legal_of_inFrame h phGen rfl (by decide) hmore ⟨rfl, rfl, rfl, rfl⟩ hlen hprng hdist

theorem legal_sendCoef {s : State} (h : legal s) (hph : s.ph = phTxc) : legal s.sendCoef := by
  obtain ⟨-, -, -, -, -, hf, -, -, hk, -⟩ := id h
  obtain ⟨hcoef, herr⟩ := frameLens_pos h
  by_cases hlast : s.txidx.toNat + 1 = s.cfg.coefFrameLen
  · rw [State.sendCoef_of_last hlast]
    refine legal_of_move h _ _ ?_ hf (lt_max_of_lt_left hcoef) (fun _ => hcoef) (fun _ => herr)
    split_ifs
    · exact .inr (.inr (.inr rfl))
    · exact .inl rfl
  · have hmore : s.txidx.toNat + 1 < s.cfg.coefFrameLen := by have := hk hph; omega
    have hsucc := txidx_succ_toNat h (lt_max_of_lt_left hmore)
    rw [State.sendCoef_of_more hlast]
    exact legal_of_move h _ _ (.inr (.inr (.inl hph))) hf (by rw [hsucc]; exact lt_max_of_lt_left hmore)
      (fun _ => by rwa [hsucc]) (fun e => by rw [hph] at e; exact absurd e (by decide))

theorem legal_sendErr {s : State} (h : legal s) (hph : s.ph = phTxe) : legal s.sendErr := by
  obtain ⟨-, -, -, -, -, hf, -, -, -, hk, -⟩ := id h
  obtain ⟨hcoef, herr⟩ := frameLens_pos h
  by_cases hlast : s.txidx.toNat + 1 = s.cfg.errFrameLen
  · rw [State.sendErr_of_last hlast]
    exact legal_of_move h _ _ (.inl rfl) hf (lt_max_of_lt_left hcoef) (fun _ => hcoef) (fun _ => herr)
  · have hmore : s.txidx.toNat + 1 < s.cfg.errFrameLen := by have := hk hph; omega
    have hsucc := txidx_succ_toNat h (lt_max_of_lt_right hmore)
    rw [State.sendErr_of_more hlast]
    exact legal_of_move h _ _ (.inr (.inr (.inr hph))) hf (by rw [hsucc]; exact lt_max_of_lt_right hmore)
      (fun e => by rw [hph] at e; exact absurd e (by decide)) (fun _ => by rwa [hsucc])

/-- Every operation, run in its phase, keeps the state legal (R48). -/
theorem legal_effect {i : Instr} {s : State} (h : legal s) (hi : Enabled i s) : legal (effect i s) := by
  cases i with
  | aclr | macc | ascl | qmul | sadd | ssub | sabs | umin | amean | evnone => exact h
  | evmu => exact legal_stepMu h
  | evpow => exact legal_stepPower h
  | evboth => exact legal_stepPower (legal_stepMu h)
  | wait =>
    simp only [effect]
    split_ifs
    · exact legal_toStart h
    · exact h
  | start => exact legal_beginRun h
  | gen => exact legal_genBlock h (hi _ rfl)
  | plant => exact legal_plantBlock h (hi _ rfl)
  | adapt => exact legal_adaptBlock h (hi _ rfl)
  | mse => exact legal_mseBlock h (hi _ rfl)
  | dist => exact legal_distBlock h (hi _ rfl)
  | nextf => exact legal_countFrame h (hi _ rfl)
  | txc =>
    simp only [effect]
    split_ifs
    · exact legal_sendCoef h (hi _ rfl)
    · exact h
  | txe =>
    simp only [effect]
    split_ifs
    · exact legal_sendErr h (hi _ rfl)
    · exact h

/-! ### Fields that the branching effects leave -/

@[simp] theorem State.countFrame_cfg (s : State) : s.countFrame.cfg = s.cfg := by
  simp only [State.countFrame]; split_ifs <;> rfl
@[simp] theorem State.countFrame_muRun (s : State) : s.countFrame.muRun = s.muRun := by
  simp only [State.countFrame]; split_ifs <;> rfl
@[simp] theorem State.countFrame_powerRun (s : State) : s.countFrame.powerRun = s.powerRun := by
  simp only [State.countFrame]; split_ifs <;> rfl
@[simp] theorem State.sendCoef_cfg (s : State) : s.sendCoef.cfg = s.cfg := by
  simp only [State.sendCoef]; split_ifs <;> rfl
@[simp] theorem State.sendCoef_muRun (s : State) : s.sendCoef.muRun = s.muRun := by
  simp only [State.sendCoef]; split_ifs <;> rfl
@[simp] theorem State.sendCoef_powerRun (s : State) : s.sendCoef.powerRun = s.powerRun := by
  simp only [State.sendCoef]; split_ifs <;> rfl
@[simp] theorem State.sendErr_cfg (s : State) : s.sendErr.cfg = s.cfg := by
  simp only [State.sendErr]; split_ifs <;> rfl
@[simp] theorem State.sendErr_muRun (s : State) : s.sendErr.muRun = s.muRun := by
  simp only [State.sendErr]; split_ifs <;> rfl
@[simp] theorem State.sendErr_powerRun (s : State) : s.sendErr.powerRun = s.powerRun := by
  simp only [State.sendErr]; split_ifs <;> rfl

/-- No operation changes a parameter (R10). -/
theorem effect_cfg (i : Instr) (s : State) : (effect i s).cfg = s.cfg := by
  cases i with
  | wait | txc | txe => simp only [effect]; split_ifs <;> simp
  | _ => simp [effect]

/-- Only `START` writes the latches (R24, R25, R218). -/
theorem effect_latches {i : Instr} (hi : i ≠ .start) (s : State) :
    (effect i s).muRun = s.muRun ∧ (effect i s).powerRun = s.powerRun := by
  cases i with
  | start => exact absurd rfl hi
  | wait | txc | txe => simp only [effect]; split_ifs <;> simp
  | _ => simp [effect]

theorem inv_effect {i : Instr} {s : State} (h : s.Inv) (hi : Enabled i s) : (effect i s).Inv := by
  obtain ⟨hl, hm, hp⟩ := h
  refine ⟨legal_effect hl hi, ?_⟩
  by_cases hs : i = .start
  · subst hs
    obtain ⟨-, -, -, ⟨-, hmu⟩, ⟨-, hpow⟩, -⟩ := hl
    exact ⟨hmu, hpow⟩
  · obtain ⟨em, ep⟩ := effect_latches hs s
    rw [em, ep]
    exact ⟨hm, hp⟩

/-! ### The state after reset -/

theorem resetWith_mu_toNat {c : Config} (h : configLegal c) (k : Nat) (ls : List Line) (bs : List Byte) :
    (State.resetWith c k ls bs).mu.toNat = c.muMin := by
  obtain ⟨-, -, -, -, hmu, -⟩ := h
  rw [paramMax] at hmu
  rw [State.resetWith, BitVec.toNat_ofNat]
  omega

theorem resetWith_power_toNat {c : Config} (h : configLegal c) (k : Nat) (ls : List Line) (bs : List Byte) :
    (State.resetWith c k ls bs).power.toNat = c.powerMin := by
  obtain ⟨-, -, -, -, -, hpow, -⟩ := h
  rw [paramMax] at hpow
  rw [State.resetWith, BitVec.toNat_ofNat]
  omega

/-- Any state reset leaves has the invariant, whatever the counter and the free values drawn at it are (R48, R49). -/
theorem inv_resetWith {c : Config} (h : configLegal c) (k : Nat) (ls : List Line) (bs : List Byte) :
    (State.resetWith c k ls bs).Inv := by
  obtain ⟨-, hseed, ⟨-, hw⟩, -, hmu, hpow, hthr, -⟩ := id h
  obtain ⟨⟨htaps, -⟩, -, hframes, -⟩ := configLegal_sizes h
  have latch_le (v : Fin 28001) : (BitVec.ofNat 16 v.val).toNat ≤ paramMax := by
    rw [BitVec.toNat_ofNat, paramMax]; omega
  have hlen : storeLengths (State.resetWith c k ls bs) :=
    ⟨hw, List.length_replicate, List.length_replicate, by simp [State.resetWith]⟩
  have htxc : phWait ≠ phTxc := by decide
  have htxe : phWait ≠ phTxe := by decide
  refine ⟨⟨h, hlen, Nat.zero_le _, ?_, ?_, Nat.zero_le _, fun _ => hframes, ?_, fun e => absurd e htxc,
    fun e => absurd e htxe, hseed, le_rfl, ?_⟩, latch_le _, latch_le _⟩
  · rw [resetWith_mu_toNat h]; exact ⟨le_rfl, hmu⟩
  · rw [resetWith_power_toNat h]; exact ⟨le_rfl, hpow⟩
  · show 0 < max (4 * c.taps) _
    omega
  · simpa [State.resetWith] using hthr

theorem configLegal_testDefault : configLegal Config.testDefault := by decide

/-! ### The invariant along every step -/

/-- R48 and R10 together, as one property of the state. -/
def InvWith (c : Config) (s : State) : Prop := s.Inv ∧ s.cfg = c

theorem step_keeps_invWith {c : Config} {s t : State} (hs : InvWith c s) (h : step s = .next t) : InvWith c t := by
  refine step_keeps (InvWith c) ?_ ?_ ?_ ?_ ?_ hs h
  · exact fun _ hu => hu
  · exact fun _ _ hu => hu
  · exact fun _ _ _ hu => hu
  · rintro i s t ⟨hinv, hc⟩ ht
    obtain ⟨-, hen, rfl⟩ := exec_eq_next_iff.1 ht
    exact ⟨inv_effect hinv hen, (effect_cfg i s).trans hc⟩
  · rintro s t ⟨-, hc⟩ ht
    obtain ⟨hlegal, rfl⟩ := resetStep_eq_next ht
    exact ⟨inv_resetWith hlegal _ _ _, hc⟩

/-- Settles O46: the invariant and the parameters are kept by each part of a step, hence by the step. -/
theorem stepKeepsInvariant : Obligations.StepKeepsInvariant := by
  unfold Obligations.StepKeepsInvariant
  intro s t hs h
  exact step_keeps_invWith ⟨hs, rfl⟩ h

/-- Settles O47. -/
theorem resetHasInvariant : Obligations.ResetHasInvariant := by
  unfold Obligations.ResetHasInvariant
  exact ⟨fun _ k ls bs hc => inv_resetWith hc k ls bs, inv_resetWith configLegal_testDefault 0 [] []⟩

/-! ### The reset step -/

/-- A reset line, and a clocked step with `rst` = 1, are the reset step whatever else the ports show (R245, R265). -/
theorem runLine_of_resets {l : Line} (h : resets l = true) (s : State) : runLine l s = resetStep s := by
  cases l with
  | rst => rfl
  | clock inp => exact runClock_of_rst h s
  | seq | ev | prim => cases h

theorem step_of_resets {s : State} {l : Line} {rest : List Line} (hc : configLegal s.cfg) (hs : s.sched = l :: rest)
    (hl : resets l = true) : step s = .next (State.resetWith s.cfg (s.tick + 1) rest s.wire) := by
  rw [step, nextLine_of_cons hs, popLine_of_cons hs, runLine_of_resets hl]
  exact resetStep_of_legal hc

/-- Settles O48: the next state is the one `State.resetWith` writes out. -/
theorem resetStepLeavesResetValues : Obligations.ResetStepLeavesResetValues := by
  unfold Obligations.ResetStepLeavesResetValues
  intro s l rest hc hs hl
  obtain ⟨⟨-, hlen, -⟩, -⟩ := inv_resetWith hc (s.tick + 1) rest s.wire
  have hmu := resetWith_mu_toNat hc (s.tick + 1) rest s.wire
  have hpow := resetWith_power_toNat hc (s.tick + 1) rest s.wire
  exact ⟨_, step_of_resets hc hs hl, hmu, hpow, rfl, rfl, rfl, rfl, rfl, rfl, rfl, rfl, rfl, rfl, rfl, rfl, rfl, rfl, rfl,
    hlen⟩

/-! ### The two delay lines -/

/-- Settles O34: both operations shift the same block `XB` into their line (R131, R134, R141). -/
theorem delayLinesStayEqual : Obligations.DelayLinesStayEqual := by
  unfold Obligations.DelayLinesStayEqual
  intro s hs hph hline
  have hplant : Enabled .plant s := by rintro p ⟨⟩; exact hph
  have hadapt : Enabled .adapt s.plantBlock := by rintro p ⟨⟩; rfl
  have hlegal : legal s.plantBlock := legal_effect hs hplant
  refine ⟨s.plantBlock.adaptBlock, ?_, ?_⟩
  · rw [exec_of_legal hs hplant, andThen_next]
    exact exec_of_legal hlegal hadapt
  · calc s.plantBlock.adaptBlock.dla
      _ = lineAfter s.xb s.dla s.xb.length := lmsRun_dla _ _ _ _ _ _ (plantRun_out_length _ _ _ _)
      _ = lineAfter s.xb s.dlp s.xb.length := by rw [hline]
      _ = s.plantBlock.adaptBlock.dlp := (plantRun_dlp _ _ _ _).symm

/-! ### Elements that the run has not written yet -/

/-- The seven fields whose elements reset leaves without a value (R49, R50). -/
@[ext] structure Unwritten where
  muRun : Sample
  powerRun : Sample
  xb : List Sample
  db : List Sample
  yb : List Sample
  eb : List Sample
  et : List ErrVal

/-- What `s` holds in the seven fields. -/
def State.unwritten (s : State) : Unwritten := ⟨s.muRun, s.powerRun, s.xb, s.db, s.yb, s.eb, s.et⟩

/-- `s` with other values in the seven fields. -/
def State.withUnwritten (s : State) (u : Unwritten) : State :=
  { s with muRun := u.muRun, powerRun := u.powerRun, xb := u.xb, db := u.db, yb := u.yb, eb := u.eb, et := u.et }

/-- The stores of `u` and `v` have the same lengths. -/
abbrev SameLengths (u v : Unwritten) : Prop :=
  v.xb.length = u.xb.length ∧ v.db.length = u.db.length ∧ v.yb.length = u.yb.length ∧ v.eb.length = u.eb.length ∧
    v.et.length = u.et.length

/-- `u` and `v` have stores of the same lengths, and the same values where a run in the phase `ph` and the frame `frame`
has written them since the last reset or `START`. -/
structure MatchesWritten (ph : BitVec 4) (frame : Nat) (u v : Unwritten) : Prop where
  lengths : SameLengths u v
  latches : 2 ≤ ph.toNat → v.muRun = u.muRun ∧ v.powerRun = u.powerRun
  frames : 2 ≤ ph.toNat → v.et.take frame = u.et.take frame
  input : 3 ≤ ph.toNat → v.xb = u.xb
  reference : 4 ≤ ph.toNat → v.db = u.db
  filtered : 5 ≤ ph.toNat → v.yb = u.yb ∧ v.eb = u.eb
  frameDone : 6 ≤ ph.toNat → v.et.take (frame + 1) = u.et.take (frame + 1)
  trace : 8 ≤ ph.toNat → v.et = u.et

theorem agreeWhereWritten_iff {s t : State} :
    AgreeWhereWritten s t ↔ ∃ u, t = s.withUnwritten u ∧ MatchesWritten s.ph s.frame.toNat s.unwritten u := by
  constructor
  · rintro ⟨m, p, x, d, y, e, et, rfl, hlen, hgen, hx, hd, hye, het, hall⟩
    have hlatch h : m = s.muRun ∧ p = s.powerRun := let ⟨hm, hp, _⟩ := hgen h; ⟨hm, hp⟩
    have hframes h : et.take s.frame.toNat = s.et.take s.frame.toNat := let ⟨_, _, ht⟩ := hgen h; ht
    exact ⟨⟨m, p, x, d, y, e, et⟩, rfl, hlen, hlatch, hframes, hx, hd, hye, het, hall⟩
  · rintro ⟨⟨m, p, x, d, y, e, et⟩, rfl, hlen, hlatch, hframes, hx, hd, hye, het, hall⟩
    have hgen h : m = s.muRun ∧ p = s.powerRun ∧ _ := let ⟨hm, hp⟩ := hlatch h; ⟨hm, hp, hframes h⟩
    exact ⟨m, p, x, d, y, e, et, rfl, hlen, hgen, hx, hd, hye, het, hall⟩

theorem agreeWhereWritten_refl (s : State) : AgreeWhereWritten s s :=
  agreeWhereWritten_iff.2 ⟨s.unwritten, rfl, ⟨rfl, rfl, rfl, rfl, rfl⟩, fun _ => ⟨rfl, rfl⟩, fun _ => rfl, fun _ => rfl,
    fun _ => rfl, fun _ => ⟨rfl, rfl⟩, fun _ => rfl, fun _ => rfl⟩

/-- In `WAIT` and `START` nothing of the seven fields is written yet: only the lengths have to match. -/
theorem MatchesWritten.of_idle {ph : BitVec 4} {frame : Nat} {u v : Unwritten} (hph : ph.toNat < 2)
    (hlen : SameLengths u v) : MatchesWritten ph frame u v := by
  constructor
  · exact hlen
  all_goals intro h; omega

/-- From `TXC` on everything is written. -/
theorem MatchesWritten.eq_of_telemetry {ph : BitVec 4} {frame : Nat} {u v : Unwritten} (hph : 8 ≤ ph.toNat)
    (h : MatchesWritten ph frame u v) : v = u := by
  obtain ⟨hm, hp⟩ := h.latches (by omega)
  obtain ⟨hy, he⟩ := h.filtered (by omega)
  exact Unwritten.ext hm hp (h.input (by omega)) (h.reference (by omega)) hy he (h.trace hph)

theorem legal_withUnwritten {s : State} {ph : BitVec 4} {frame : Nat} {u : Unwritten} (h : legal s)
    (hu : MatchesWritten ph frame s.unwritten u) : legal (s.withUnwritten u) := by
  obtain ⟨hc, ⟨hw, hp, ha, hx, hd, hy, he, het⟩, hrest⟩ := h
  obtain ⟨ex, ed, ey, ee, eet⟩ := hu.lengths
  exact ⟨hc, ⟨hw, hp, ha, ex.trans hx, ed.trans hd, ey.trans hy, ee.trans he, eet.trans het⟩, hrest⟩

/-! Each operation writes what its phase owes and reads only what earlier phases have written. -/

section
variable {s : State} {u : Unwritten}

/-- An operation that neither reads nor writes the seven fields and stays in its phase and frame keeps the agreement. -/
theorem agree_of_untouched (f : State → State) (hu : MatchesWritten s.ph s.frame.toNat s.unwritten u)
    (hcomm : f (s.withUnwritten u) = (f s).withUnwritten u)
    (hkeep : (f s).ph = s.ph ∧ (f s).frame = s.frame ∧ (f s).unwritten = s.unwritten) :
    AgreeWhereWritten (f s) (f (s.withUnwritten u)) := by
  obtain ⟨hph, hframe, hun⟩ := hkeep
  exact agreeWhereWritten_iff.2 ⟨u, hcomm, by rwa [hph, hframe, hun]⟩

/-- The agreement with the phase as a literal, so that what is not due yet in it is decided. -/
theorem agree_of_ph {t : State} (p : BitVec 4) (hph : s.ph = p) (ht : t = s.withUnwritten u)
    (hu : MatchesWritten p s.frame.toNat s.unwritten u) : AgreeWhereWritten s t :=
  agreeWhereWritten_iff.2 ⟨u, ht, hph ▸ hu⟩

theorem agree_toStart (hu : MatchesWritten phWait s.frame.toNat s.unwritten u) :
    AgreeWhereWritten (s.toPhase phStart) ((s.withUnwritten u).toPhase phStart) :=
  agree_of_ph phStart rfl rfl (.of_idle (by decide) hu.lengths)

theorem agree_beginRun (hu : MatchesWritten phStart s.frame.toNat s.unwritten u) :
    AgreeWhereWritten s.beginRun (s.withUnwritten u).beginRun := by
  have ht : (s.withUnwritten u).beginRun = s.beginRun.withUnwritten { u with muRun := s.mu, powerRun := s.power } := rfl
  exact agree_of_ph phGen rfl ht
    { lengths := hu.lengths
      latches := fun _ => ⟨rfl, rfl⟩
      frames := fun _ => rfl
      input := fun h => absurd h (by decide)
      reference := fun h => absurd h (by decide)
      filtered := fun h => absurd h (by decide)
      frameDone := fun h => absurd h (by decide)
      trace := fun h => absurd h (by decide) }

theorem agree_genBlock (hu : MatchesWritten phGen s.frame.toNat s.unwritten u) :
    AgreeWhereWritten s.genBlock (s.withUnwritten u).genBlock := by
  obtain ⟨hm, hp⟩ := hu.latches (by decide)
  have ht : (s.withUnwritten u).genBlock = s.genBlock.withUnwritten { u with xb := s.genBlock.xb } := by
    have hp : u.powerRun = s.powerRun := hp
    simp only [State.genBlock, State.withUnwritten, hp]
  exact agree_of_ph phPlant rfl ht
    { lengths := ⟨rfl, hu.lengths.2⟩
      latches := fun _ => ⟨hm, hp⟩
      frames := fun _ => hu.frames (by decide)
      input := fun _ => rfl
      reference := fun h => absurd h (by decide)
      filtered := fun h => absurd h (by decide)
      frameDone := fun h => absurd h (by decide)
      trace := fun h => absurd h (by decide) }

theorem agree_plantBlock (hu : MatchesWritten phPlant s.frame.toNat s.unwritten u) :
    AgreeWhereWritten s.plantBlock (s.withUnwritten u).plantBlock := by
  obtain ⟨-, -, hyl, hel, htl⟩ := hu.lengths
  have hx : u.xb = s.xb := hu.input (by decide)
  have ht : (s.withUnwritten u).plantBlock = s.plantBlock.withUnwritten { u with db := s.plantBlock.db } := by
    simp only [State.plantBlock, State.withUnwritten, State.h, hx]
  exact agree_of_ph phAdapt rfl ht
    { lengths := ⟨congrArg _ hx, rfl, hyl, hel, htl⟩
      latches := fun _ => hu.latches (by decide)
      frames := fun _ => hu.frames (by decide)
      input := fun _ => hx
      reference := fun _ => rfl
      filtered := fun h => absurd h (by decide)
      frameDone := fun h => absurd h (by decide)
      trace := fun h => absurd h (by decide) }

theorem agree_adaptBlock (hu : MatchesWritten phAdapt s.frame.toNat s.unwritten u) :
    AgreeWhereWritten s.adaptBlock (s.withUnwritten u).adaptBlock := by
  obtain ⟨-, -, -, -, htl⟩ := hu.lengths
  have hlatch : u.muRun = s.muRun ∧ u.powerRun = s.powerRun := hu.latches (by decide)
  have hx : u.xb = s.xb := hu.input (by decide)
  have hd : u.db = s.db := hu.reference (by decide)
  have ht : (s.withUnwritten u).adaptBlock =
      s.adaptBlock.withUnwritten { u with yb := s.adaptBlock.yb, eb := s.adaptBlock.eb } := by
    simp only [State.adaptBlock, State.withUnwritten, hlatch.1, hx, hd]
  exact agree_of_ph phMse rfl ht
    { lengths := ⟨congrArg _ hx, congrArg _ hd, rfl, rfl, htl⟩
      latches := fun _ => hlatch
      frames := fun _ => hu.frames (by decide)
      input := fun _ => hx
      reference := fun _ => hd
      filtered := fun _ => ⟨rfl, rfl⟩
      frameDone := fun h => absurd h (by decide)
      trace := fun h => absurd h (by decide) }

/-- Writing entry `n` of two traces that agree before it leaves them in agreement up to it. -/
theorem take_succ_set_of_take_eq {a b : List ErrVal} {n : Nat} (hlen : b.length = a.length) (h : b.take n = a.take n)
    (v : ErrVal) : (b.set n v).take (n + 1) = (a.set n v).take (n + 1) := by
  simp only [List.take_add_one, List.take_set, h, List.getElem?_set, hlen, if_true]

/-- The error value that `MSE` stores for the frame, from `EB` (R166). -/
def State.frameError (s : State) : ErrVal := amean s.tick s.cfg.block (maccAll 0 s.eb s.eb)

theorem agree_mseBlock (hu : MatchesWritten phMse s.frame.toNat s.unwritten u) :
    AgreeWhereWritten s.mseBlock (s.withUnwritten u).mseBlock := by
  obtain ⟨hxl, hdl, hyl, hel, htl⟩ := hu.lengths
  have hfilt : u.yb = s.yb ∧ u.eb = s.eb := hu.filtered (by decide)
  have hframes : u.et.take s.frame.toNat = s.et.take s.frame.toNat := hu.frames (by decide)
  have ht : (s.withUnwritten u).mseBlock =
      s.mseBlock.withUnwritten { u with et := u.et.set s.frame.toNat s.frameError } := by
    simp only [State.mseBlock, State.withUnwritten, State.frameError, hfilt.2]
  exact agree_of_ph phDist rfl ht
    { lengths := ⟨hxl, hdl, hyl, hel, by simpa [State.unwritten] using htl⟩
      latches := fun _ => hu.latches (by decide)
      frames := fun _ => by
        show (u.et.set _ s.frameError).take s.frame.toNat = (s.et.set _ s.frameError).take s.frame.toNat
        rw [List.take_set, List.take_set, hframes]
      input := fun _ => hu.input (by decide)
      reference := fun _ => hu.reference (by decide)
      filtered := fun _ => hfilt
      frameDone := fun _ => take_succ_set_of_take_eq htl hframes _
      trace := fun h => absurd h (by decide) }

theorem agree_distBlock (hu : MatchesWritten phDist s.frame.toNat s.unwritten u) :
    AgreeWhereWritten s.distBlock (s.withUnwritten u).distBlock :=
  agree_of_ph phNextf rfl rfl
    { lengths := hu.lengths
      latches := fun _ => hu.latches (by decide)
      frames := fun _ => hu.frames (by decide)
      input := fun _ => hu.input (by decide)
      reference := fun _ => hu.reference (by decide)
      filtered := fun _ => hu.filtered (by decide)
      frameDone := fun _ => hu.frameDone (by decide)
      trace := fun h => absurd h (by decide) }

theorem agree_countFrame (hl : legal s) (hph : s.ph = phNextf)
    (hu : MatchesWritten phNextf s.frame.toNat s.unwritten u) :
    AgreeWhereWritten s.countFrame (s.withUnwritten u).countFrame := by
  have hsucc := frame_succ_toNat hl (frame_lt_of_ph hl hph (by decide))
  have hdone : u.et.take (s.frame.toNat + 1) = s.et.take (s.frame.toNat + 1) := hu.frameDone (by decide)
  obtain ⟨-, -, -, -, (hlen : u.et.length = s.et.length)⟩ := hu.lengths
  by_cases hlast : (s.frame + 1).toNat = s.cfg.numFrames
  · have htrace : u.et = s.et := by
      obtain ⟨-, ⟨-, -, -, -, -, -, -, het⟩, -⟩ := hl
      rwa [List.take_of_length_le (by omega), List.take_of_length_le (by omega)] at hdone
    rw [State.countFrame_of_last hlast]
    exact agree_of_ph phTxc rfl (State.countFrame_of_last hlast)
      { lengths := hu.lengths
        latches := fun _ => hu.latches (by decide)
        frames := fun _ => congrArg _ htrace
        input := fun _ => hu.input (by decide)
        reference := fun _ => hu.reference (by decide)
        filtered := fun _ => hu.filtered (by decide)
        frameDone := fun _ => congrArg _ htrace
        trace := fun _ => htrace }
  · rw [State.countFrame_of_more hlast]
    exact agree_of_ph phGen rfl (State.countFrame_of_more hlast)
      { lengths := hu.lengths
        latches := fun _ => hu.latches (by decide)
        frames := fun _ => by show u.et.take (s.frame + 1).toNat = s.et.take (s.frame + 1).toNat; rwa [hsucc]
        input := fun h => absurd h (by decide)
        reference := fun h => absurd h (by decide)
        filtered := fun h => absurd h (by decide)
        frameDone := fun h => absurd h (by decide)
        trace := fun h => absurd h (by decide) }

/-- From `TXC` on the two states are one. -/
theorem withUnwritten_eq_self {p : BitVec 4} {frame : Nat} (hp : 8 ≤ p.toNat)
    (hu : MatchesWritten p frame s.unwritten u) : s.withUnwritten u = s := by
  rw [hu.eq_of_telemetry hp]; rfl

/-- Every operation, run in its phase from two agreeing states, leaves agreeing states. -/
theorem agree_effect {i : Instr} (hl : legal s) (hi : Enabled i s)
    (hu : MatchesWritten s.ph s.frame.toNat s.unwritten u) :
    AgreeWhereWritten (effect i s) (effect i (s.withUnwritten u)) := by
  have hup : ∀ p, encode i = .s p → MatchesWritten p s.frame.toNat s.unwritten u := fun p hp => hi p hp ▸ hu
  cases i with
  | aclr | macc | ascl | qmul | sadd | ssub | sabs | umin | amean | evnone | evmu | evpow | evboth =>
    exact agree_of_untouched (effect _) hu rfl ⟨rfl, rfl, rfl⟩
  | wait =>
    have hr : (s.withUnwritten u).restart = s.restart := rfl
    simp only [effect, hr]
    split_ifs
    · exact agree_toStart (hup _ rfl)
    · exact agreeWhereWritten_iff.2 ⟨u, rfl, hu⟩
  | start => exact agree_beginRun (hup _ rfl)
  | gen => exact agree_genBlock (hup _ rfl)
  | plant => exact agree_plantBlock (hup _ rfl)
  | adapt => exact agree_adaptBlock (hup _ rfl)
  | mse => exact agree_mseBlock (hup _ rfl)
  | dist => exact agree_distBlock (hup _ rfl)
  | nextf => exact agree_countFrame hl (hi _ rfl) (hup _ rfl)
  | txc =>
    rw [withUnwritten_eq_self (by decide) (hup _ rfl)]
    exact agreeWhereWritten_refl _
  | txe =>
    rw [withUnwritten_eq_self (by decide) (hup _ rfl)]
    exact agreeWhereWritten_refl _

end

/-- The agreement is carried by every part of a step: a reset step makes both states the same. -/
theorem agreeWhereWritten_stepRelation : StepRelation AgreeWhereWritten where
  ph := by rintro s _ ⟨m, p, x, d, y, e, et, rfl, -⟩; rfl
  restart := by rintro s _ ⟨m, p, x, d, y, e, et, rfl, -⟩; rfl
  sched := by rintro s _ ⟨m, p, x, d, y, e, et, rfl, -⟩; rfl
  tick := by rintro s _ ⟨m, p, x, d, y, e, et, rfl, -⟩; rfl
  popLine := by rintro s _ ⟨m, p, x, d, y, e, et, rfl, h⟩; exact ⟨m, p, x, d, y, e, et, rfl, h⟩
  withReady := by rintro s _ r ⟨m, p, x, d, y, e, et, rfl, h⟩; exact ⟨m, p, x, d, y, e, et, rfl, h⟩
  withOperands := by rintro s _ a b ⟨m, p, x, d, y, e, et, rfl, h⟩; exact ⟨m, p, x, d, y, e, et, rfl, h⟩
  exec := by
    intro i s s' t hs h
    obtain ⟨u, rfl, hu⟩ := agreeWhereWritten_iff.1 hs
    obtain ⟨hl, hi, rfl⟩ := exec_eq_next_iff.1 h
    exact ⟨_, exec_of_legal (legal_withUnwritten hl hu) hi, agree_effect hl hi hu⟩
  reset := by
    intro s s' t hs h
    obtain ⟨u, rfl, hu⟩ := agreeWhereWritten_iff.1 hs
    obtain ⟨hc, rfl⟩ := resetStep_eq_next h
    exact ⟨_, resetStep_of_legal hc, agreeWhereWritten_refl _⟩

/-- Settles O49: the agreement holds between reset states, every step carries it, and agreeing states differ in the seven
fields only, so they have the same `TXS`, `W`, `DIST` and `CONV`. -/
theorem unwrittenElementsNeverMatter : Obligations.UnwrittenElementsNeverMatter := by
  unfold Obligations.UnwrittenElementsNeverMatter
  constructor
  · intro c k ls bs m p x d y e et hx hd hy he het
    refine agreeWhereWritten_iff.2 ⟨⟨m, p, x, d, y, e, et⟩, rfl, .of_idle (by decide : phWait.toNat < 2) ?_⟩
    simp [SameLengths, State.unwritten, State.resetWith, hx, hd, hy, he, het]
  · intro s s' t hs h
    obtain ⟨t', ht', hagree⟩ := agreeWhereWritten_stepRelation.step s s' t hs h
    obtain ⟨u, rfl, -⟩ := agreeWhereWritten_iff.1 hagree
    exact ⟨_, ht', hagree, rfl, rfl, rfl, rfl⟩

end Sys2Proof.Machine
end

section
/-! PROOFS. 20_memory.md: the agents' steps. First the codes both ways and what each agent's step runs; then the pending event
(R70), events against the sequencer's operation (R69), the output ports (R75, R76), and the clocked step (R76, R77). -/

namespace Sys2Proof

/-! ### The codes, both ways -/

theorem decode_encode (i : Instr) : decode (encode i) = .ok i := by cases i <;> rfl

theorem encode_decodeEvent : ∀ ev : BitVec 2, encode (decodeEvent ev) = .e ev := by decide

theorem encode_event_ne_phase (ev : BitVec 2) (p : BitVec 4) : encode (decodeEvent ev) ≠ .s p := by
  rw [encode_decodeEvent]
  nofun

/-- The decoder reads an operation from its own code only (R97 to R99). -/
theorem encode_of_decode {c : Code} {i : Instr} (h : decode c = .ok i) : encode i = c := by
  have hprim : ∀ fn, ∀ j ∈ (decodePrim fn).toOption, encode j = .p fn := by decide
  have hphase : ∀ ph, ∀ j ∈ (decodePhase ph).toOption, encode j = .s ph := by decide
  cases c with
  | p fn => exact hprim fn i (congrArg Except.toOption h)
  | s ph => exact hphase ph i (congrArg Except.toOption h)
  | e ev => cases h; exact encode_decodeEvent ev

theorem encode_injective : Function.Injective encode := fun i j h =>
  Except.ok.inj <| calc
    .ok i = decode (encode i) := (decode_encode i).symm
    _ = decode (encode j) := congrArg decode h
    _ = .ok j := decode_encode j

end Sys2Proof

namespace Sys2Proof.Machine

open Sys2Proof.Claims

/-! ### What each agent's step runs -/

theorem enabled_of_encode {i : Instr} {s : State} (h : encode i = .s s.ph) : Enabled i s :=
  fun _ hp => Code.s.inj (h.symm.trans hp)

/-- An event is enabled in every phase (R183, R244). -/
theorem enabled_event (ev : BitVec 2) (s : State) : Enabled (decodeEvent ev) s :=
  fun p hp => absurd hp (encode_event_ne_phase ev p)

theorem exists_encode_of_phaseLegal {s : State} (h : phaseLegal s) : ∃ i, encode i = .s s.ph := by
  rcases phaseLegal_cases h with h | h | h | h | h | h | h | h | h | h <;> rw [h]
  exacts [⟨.wait, rfl⟩, ⟨.start, rfl⟩, ⟨.gen, rfl⟩, ⟨.plant, rfl⟩, ⟨.adapt, rfl⟩, ⟨.mse, rfl⟩, ⟨.dist, rfl⟩,
    ⟨.nextf, rfl⟩, ⟨.txc, rfl⟩, ⟨.txe, rfl⟩]

theorem seqStep_of_decode {s : State} {i : Instr} (h : decode (.s s.ph) = .ok i) (ready : Bool) :
    seqStep ready s = exec i (s.withReady ready) := by
  rw [seqStep, h]

theorem seqStep_of_legal {s : State} {i : Instr} (h : legal s) (hi : encode i = .s s.ph) (ready : Bool) :
    seqStep ready s = .next (effect i (s.withReady ready)) := by
  rw [seqStep_of_decode (hi ▸ decode_encode i)]
  exact exec_of_legal h (enabled_of_encode hi)

/-- Everything the sequencer's step can answer `next` to: the operation whose code `PH` holds. -/
theorem seqStep_eq_next {ready : Bool} {s t : State} (h : seqStep ready s = .next t) :
    ∃ i, encode i = .s s.ph ∧ exec i (s.withReady ready) = .next t := by
  unfold seqStep at h
  split at h
  · next i hi => exact ⟨i, encode_of_decode hi, h⟩
  · obtain ⟨-, h⟩ := guarded_eq_next h
    cases h

theorem runSeqLine_eq_next {p : BitVec 4} {s t : State} (h : runSeqLine p s = .next t) : seqStep true s = .next t := by
  unfold runSeqLine at h
  split_ifs at h
  exact h

/-- Everything a primitive's line can answer `next` to: the primitive whose code the line holds. -/
theorem runPrimLine_eq_next {fn : BitVec 4} {a b : Sample} {s t : State} (h : runPrimLine fn a b s = .next t) :
    ∃ i, encode i = .p fn ∧ exec i (s.withOperands a b) = .next t := by
  unfold runPrimLine at h
  split at h
  · next i hi => exact ⟨i, encode_of_decode hi, h⟩
  · cases h

theorem step_of_nextLine {s : State} {l : Line} (h : nextLine s = l) : step s = runLine l s.popLine := by
  rw [step, h]

/-- A `SEQ` line that does not run `START` is taken in another phase. -/
theorem ph_ne_start_of_seq {s : State} {p : BitVec 4} (hline : nextLine s = .seq p) (h : runsStart s = false) :
    s.ph ≠ phStart := by
  simpa [runsStart, hline] using h

/-- So is a clocked step that does not run `START` and in which the sequencer takes its step: no byte moves in `START`. -/
theorem ph_ne_start_of_acts {s : State} {inp : StepInput} (hline : nextLine s = .clock inp) (ha : seqActs inp s = true)
    (h : runsStart s = false) : s.ph ≠ phStart := by
  intro hph
  have hmoves : ¬ ((s.ph = phTxc ∨ s.ph = phTxe) ∧ inp.txReady = true) := by
    rintro ⟨hc | he, -⟩
    · exact absurd (hph.symm.trans hc) (by decide)
    · exact absurd (hph.symm.trans he) (by decide)
  have hseq : inp.seq = true := ((seqActs_iff inp s).1 ha).resolve_right hmoves
  simp [runsStart, hline, hph, hseq] at h

/-- A property that the parts of a step keep, `START` and reset aside, is kept by every step that is no reset and does not run
`START`, in whatever phase it is taken. -/
theorem step_keeps_without_start (P : State → Prop) (hpop : ∀ s, P s → P s.popLine)
    (hready : ∀ s r, P s → P (s.withReady r)) (hops : ∀ s a b, P s → P (s.withOperands a b))
    (hexec : ∀ i s t, i ≠ .start → P s → exec i s = .next t → P t) {s t : State} (hr : resets (nextLine s) = false)
    (hst : runsStart s = false) (hs : P s) (h : step s = .next t) : P t := by
  have hevent : ∀ ev u v, P u → exec (decodeEvent ev) u = .next v → P v := by
    intro ev u v hu hv
    have hne : decodeEvent ev ≠ .start := fun e => encode_event_ne_phase ev phStart (congrArg encode e)
    exact hexec _ u v hne hu hv
  have hseq : ∀ r v, s.ph ≠ phStart → seqStep r s.popLine = .next v → P v := by
    intro r v hph hv
    obtain ⟨i, hi, hv⟩ := seqStep_eq_next hv
    have hne : i ≠ .start := by rintro rfl; exact hph (Code.s.inj hi).symm
    exact hexec i _ v hne (hready _ r (hpop s hs)) hv
  cases hline : nextLine s with
  | rst => rw [hline] at hr; cases hr
  | seq p =>
    rw [step_of_nextLine hline] at h
    exact hseq true t (ph_ne_start_of_seq hline hst) (runSeqLine_eq_next h)
  | ev code =>
    rw [step_of_nextLine hline] at h
    exact hevent code _ t (hpop s hs) h
  | prim fn a b =>
    rw [step_of_nextLine hline] at h
    obtain ⟨i, hi, h⟩ := runPrimLine_eq_next h
    have hne : i ≠ .start := by rintro rfl; cases hi
    exact hexec i _ t hne (hops _ a b (hpop s hs)) h
  | clock inp =>
    have hrst : inp.rst = false := by rwa [hline] at hr
    have h : runClock inp s.popLine = .next t := by rwa [step_of_nextLine hline] at h
    by_cases ha : seqActs inp s.popLine = true
    · rw [runClock_of_acts hrst ha] at h
      obtain ⟨u, hu, h⟩ := andThen_eq_next h
      exact hevent _ u t (hseq _ u (ph_ne_start_of_acts hline ha hst) hu) h
    · rw [runClock_of_event hrst ha] at h
      exact hevent _ _ t (hready _ _ (hpop s hs)) h

/-! ### The registers of the parameter controller -/

/-- `s` with other values in the registers an event writes. -/
def State.withParams (s : State) (mu power : Sample) (restart : Bool) : State :=
  { s with mu := mu, power := power, restart := restart }

theorem event_cases : ∀ ev : BitVec 2,
    decodeEvent ev = .evnone ∨ decodeEvent ev = .evmu ∨ decodeEvent ev = .evpow ∨ decodeEvent ev = .evboth := by decide

/-- An event writes the three registers, each from its own value alone (R183 to R186). -/
theorem exists_event_withParams (ev : BitVec 2) : ∃ (f g : Sample → Sample) (k : Bool → Bool),
    ∀ s, effect (decodeEvent ev) s = s.withParams (f s.mu) (g s.power) (k s.restart) := by
  rcases event_cases ev with h | h | h | h <;> rw [h]
  · exact ⟨id, id, id, fun _ => rfl⟩
  · exact ⟨stairReg, id, fun _ => true, fun _ => rfl⟩
  · exact ⟨id, stairReg, fun _ => true, fun _ => rfl⟩
  · exact ⟨stairReg, stairReg, fun _ => true, fun _ => rfl⟩

section
variable (s : State) (m p : Sample) (r : Bool)

theorem State.countFrame_withParams : (s.withParams m p r).countFrame = s.countFrame.withParams m p r := by
  by_cases h : (s.frame + 1).toNat = s.cfg.numFrames
  · rw [State.countFrame_of_last h]; exact State.countFrame_of_last h
  · rw [State.countFrame_of_more h]; exact State.countFrame_of_more h

theorem State.sendCoef_withParams : (s.withParams m p r).sendCoef = s.sendCoef.withParams m p r := by
  by_cases h : s.txidx.toNat + 1 = s.cfg.coefFrameLen
  · rw [State.sendCoef_of_last h]; exact State.sendCoef_of_last h
  · rw [State.sendCoef_of_more h]; exact State.sendCoef_of_more h

theorem State.sendErr_withParams : (s.withParams m p r).sendErr = s.sendErr.withParams m p r := by
  by_cases h : s.txidx.toNat + 1 = s.cfg.errFrameLen
  · rw [State.sendErr_of_last h]; exact State.sendErr_of_last h
  · rw [State.sendErr_of_more h]; exact State.sendErr_of_more h

variable {i : Instr} (hwait : i ≠ .wait) (hstart : i ≠ .start) (hev : ∀ ev, encode i ≠ .e ev)
include hwait hstart hev

/-- Every operation but the events, `WAIT` and `START` neither reads nor writes the registers an event writes (R69, R187). -/
theorem effect_withParams : effect i (s.withParams m p r) = (effect i s).withParams m p r := by
  cases i with
  | wait => exact absurd rfl hwait
  | start => exact absurd rfl hstart
  | evnone | evmu | evpow | evboth => exact absurd rfl (hev _)
  | nextf => exact s.countFrame_withParams m p r
  | txc =>
    have hr : (s.withParams m p r).txReady = s.txReady := rfl
    simp only [effect, hr, State.sendCoef_withParams]
    split_ifs <;> rfl
  | txe =>
    have hr : (s.withParams m p r).txReady = s.txReady := rfl
    simp only [effect, hr, State.sendErr_withParams]
    split_ifs <;> rfl
  | _ => rfl

theorem effect_params : (effect i s).mu = s.mu ∧ (effect i s).power = s.power ∧ (effect i s).restart = s.restart := by
  have h : effect i s = (effect i s).withParams s.mu s.power s.restart :=
    effect_withParams s s.mu s.power s.restart hwait hstart hev
  rw [h]
  exact ⟨rfl, rfl, rfl⟩

end

/-! ### An event stays pending until `START` -/

/-- An event is pending, and the parameters have come at least as far up the staircase as `m` and `p`. -/
def PendingFrom (m p : Nat) (s : State) : Prop := s.restart = true ∧ m ≤ s.mu.toNat ∧ p ≤ s.power.toNat

theorem le_stepMu {s : State} (h : legal s) : s.mu.toNat ≤ s.stepMu.mu.toNat := by
  obtain ⟨-, -, -, ⟨-, hmax⟩, -⟩ := h
  simpa using le_stair hmax

theorem le_stepPower {s : State} (h : legal s) : s.power.toNat ≤ s.stepPower.power.toNat := by
  obtain ⟨-, -, -, -, ⟨-, hmax⟩, -⟩ := h
  simpa using le_stair hmax

/-- No operation but `START` takes a pending event away or lowers a parameter (R70, R188). -/
theorem pendingFrom_effect {m p : Nat} {i : Instr} (hi : i ≠ .start) {s : State} (hl : legal s) (h : PendingFrom m p s) :
    PendingFrom m p (effect i s) := by
  obtain ⟨hr, hm, hp⟩ := id h
  have hother : i ≠ .wait → (∀ ev, encode i ≠ .e ev) → PendingFrom m p (effect i s) := by
    intro hwait hev
    obtain ⟨em, ep, er⟩ := effect_params s hwait hi hev
    rwa [PendingFrom, em, ep, er]
  cases i with
  | start => exact absurd rfl hi
  | wait =>
    simp only [effect, hr, if_true]
    exact h
  | evnone => exact h
  | evmu => exact ⟨rfl, hm.trans (le_stepMu hl), hp⟩
  | evpow => exact ⟨rfl, hm, hp.trans (le_stepPower hl)⟩
  | evboth => exact ⟨rfl, hm.trans (le_stepMu hl), hp.trans (le_stepPower hl)⟩
  | _ => exact hother nofun (fun _ => nofun)

theorem step_keeps_pendingFrom {m p : Nat} {s t : State} (hr : resets (nextLine s) = false) (hst : runsStart s = false)
    (hs : PendingFrom m p s) (h : step s = .next t) : PendingFrom m p t := by
  refine step_keeps_without_start (PendingFrom m p) ?_ ?_ ?_ ?_ hr hst hs h
  · exact fun _ hu => hu
  · exact fun _ _ hu => hu
  · exact fun _ _ _ hu => hu
  · intro i u v hi hu hv
    obtain ⟨hl, -, rfl⟩ := exec_eq_next_iff.1 hv
    exact pendingFrom_effect hi hl hu

theorem step_keeps_legal {s t : State} (hs : legal s) (h : step s = .next t) : legal t := by
  refine step_keeps legal ?_ ?_ ?_ ?_ ?_ hs h
  · exact fun _ hu => hu
  · exact fun _ _ hu => hu
  · exact fun _ _ _ hu => hu
  · intro i u v hu hv
    obtain ⟨-, hen, rfl⟩ := exec_eq_next_iff.1 hv
    exact legal_effect hu hen
  · intro u v _ hv
    obtain ⟨hc, rfl⟩ := resetStep_eq_next hv
    obtain ⟨hl, -⟩ := inv_resetWith hc u.tick u.sched u.wire
    exact hl

theorem beforeStart_keeps {m p : Nat} {t u : State} (h : BeforeStart t u) (hl : legal t) (ht : PendingFrom m p t) :
    legal u ∧ PendingFrom m p u := by
  induction h with
  | refl => exact ⟨hl, ht⟩
  | tail u v _ hr hst hstep ih =>
    obtain ⟨hlu, hu⟩ := ih
    exact ⟨step_keeps_legal hlu hstep, step_keeps_pendingFrom hr hst hu hstep⟩

/-- What the three events do to the registers they write (R183 to R185). -/
theorem effect_event_params {i : Instr} (hi : i = .evmu ∨ i = .evpow ∨ i = .evboth) (s : State) :
    (effect i s).restart = true ∧
    (effect i s).mu.toNat = (if i = .evpow then s.mu.toNat else stair s.mu.toNat) ∧
    (effect i s).power.toNat = (if i = .evmu then s.power.toNat else stair s.power.toNat) := by
  rcases hi with rfl | rfl | rfl <;> simp [effect]

/-- Settles O56: `PendingFrom` is kept by each part of a step but `START` and reset, hence by any number of the steps in
question, and `START` loads the latches from the registers it speaks of (R218). -/
theorem noEventIsLost : Obligations.NoEventIsLost := by
  unfold Obligations.NoEventIsLost
  refine ⟨?_, ?_, ?_⟩
  · intro s i hl hi
    have hen : Enabled i s := by rintro p hp; rcases hi with rfl | rfl | rfl <;> cases hp
    exact ⟨_, exec_of_legal hl hen, legal_effect hl hen, effect_event_params hi s⟩
  · intro s t hrestart hr hst h
    exact step_keeps_pendingFrom hr hst ⟨hrestart, le_rfl, le_rfl⟩ h
  · intro t u hl hrestart h
    obtain ⟨hlu, hr, hm, hp⟩ := beforeStart_keeps h hl ⟨hrestart, le_rfl, le_rfl⟩
    refine ⟨hr, hm, hp, fun ready hph => ?_⟩
    have hstart : encode .start = .s u.ph := by rw [hph]; rfl
    exact ⟨_, seqStep_of_legal hlu hstart ready, hm, hp⟩

/-! ### An event and the sequencer's operation, in either order -/

/-- An event leaves the phase to the sequencer (R187). -/
theorem effect_event_ph (ev : BitVec 2) (s : State) : (effect (decodeEvent ev) s).ph = s.ph := by
  obtain ⟨f, g, k, h⟩ := exists_event_withParams ev
  rw [h]
  rfl

/-- The event's registers and what the operation writes are apart. -/
theorem effect_comm_event {i : Instr} (hwait : i ≠ .wait) (hstart : i ≠ .start) (hi : ∀ ev, encode i ≠ .e ev)
    (ev : BitVec 2) (s : State) :
    effect i (effect (decodeEvent ev) s) = effect (decodeEvent ev) (effect i s) := by
  obtain ⟨f, g, k, h⟩ := exists_event_withParams ev
  obtain ⟨em, ep, er⟩ := effect_params s hwait hstart hi
  calc effect i (effect (decodeEvent ev) s)
    _ = effect i (s.withParams (f s.mu) (g s.power) (k s.restart)) := by rw [h]
    _ = (effect i s).withParams (f s.mu) (g s.power) (k s.restart) := effect_withParams s _ _ _ hwait hstart hi
    _ = effect (decodeEvent ev) (effect i s) := by rw [h, em, ep, er]

theorem effect_event_withReady (ev : BitVec 2) (s : State) (ready : Bool) :
    (effect (decodeEvent ev) s).withReady ready = effect (decodeEvent ev) (s.withReady ready) := by
  obtain ⟨f, g, k, h⟩ := exists_event_withParams ev
  rw [h, h]
  rfl

/-- Settles O57: both orders complete, and the two effects commute. -/
theorem eventsCommuteWithRunOperations : Obligations.EventsCommuteWithRunOperations := by
  unfold Obligations.EventsCommuteWithRunOperations
  intro s ev ready hl hwait hstart
  obtain ⟨-, -, hphase, -⟩ := id hl
  obtain ⟨i, hi⟩ := exists_encode_of_phaseLegal hphase
  have hw : i ≠ .wait := by rintro rfl; exact hwait (Code.s.inj hi).symm
  have hs : i ≠ .start := by rintro rfl; exact hstart (Code.s.inj hi).symm
  have hne : ∀ e, encode i ≠ .e e := fun e he => by cases hi.symm.trans he
  have hle : legal (effect (decodeEvent ev) s) := legal_effect hl (enabled_event ev s)
  have hli : legal (effect i (s.withReady ready)) := legal_effect hl (enabled_of_encode hi)
  calc andThen (exec (decodeEvent ev) s) (seqStep ready)
    _ = seqStep ready (effect (decodeEvent ev) s) := by rw [exec_of_legal hl (enabled_event ev s), andThen_next]
    _ = .next (effect i ((effect (decodeEvent ev) s).withReady ready)) :=
      seqStep_of_legal hle (hi.trans (congrArg Code.s (effect_event_ph ev s).symm)) ready
    _ = .next (effect (decodeEvent ev) (effect i (s.withReady ready))) := by
      rw [effect_event_withReady, effect_comm_event hw hs hne]
    _ = exec (decodeEvent ev) (effect i (s.withReady ready)) := (exec_of_legal hli (enabled_event ev _)).symm
    _ = andThen (seqStep ready s) (exec (decodeEvent ev)) := by rw [seqStep_of_legal hl hi, andThen_next]

/-! ### The output ports, and what leaves through them -/

theorem txValid_iff (s : State) : s.txValid = true ↔ s.ph = phTxc ∨ s.ph = phTxe := decide_eq_true_iff

theorem ports_of_txc {s : State} (h : s.ph = phTxc) :
    s.txData = s.coefByte s.txidx.toNat ∧ s.txLast = s.atLast s.cfg.coefFrameLen := by
  have hv : s.txValid = true := (txValid_iff s).2 (.inl h)
  simp [State.txData, State.txLast, State.frameByte, hv, h]

theorem ports_of_txe {s : State} (h : s.ph = phTxe) :
    s.txData = s.errByte s.txidx.toNat ∧ s.txLast = s.atLast s.cfg.errFrameLen := by
  have hv : s.txValid = true := (txValid_iff s).2 (.inr h)
  have hne : phTxe ≠ phTxc := by decide
  simp [State.txData, State.txLast, State.frameByte, hv, h, hne]

/-- The pair on the ports, where one is offered and the transport shows `ready` (R76). -/
def State.handedOver (s : State) (ready : Bool) : List (Byte × Bool) :=
  if s.txValid = true ∧ ready = true then [(s.txData, s.txLast)] else []

/-- From `s` to `t` exactly the pairs `out` are emitted: appended to `TXS`, their bytes handed to the transport (R203). -/
def Emits (s t : State) (out : List (Byte × Bool)) : Prop := t.txs = s.txs ++ out ∧ t.wire = s.wire ++ out.map Prod.fst

theorem emits_nil_iff {s t : State} : Emits s t [] ↔ t.txs = s.txs ∧ t.wire = s.wire := by simp [Emits]

theorem Emits.trans_nil {s t u : State} {out : List (Byte × Bool)} (h : Emits s t out) (h' : Emits t u []) :
    Emits s u out := by
  obtain ⟨ht, hw⟩ := emits_nil_iff.1 h'
  rwa [Emits, ht, hw]

theorem handedOver_of_valid {s : State} (h : s.txValid = true) : s.handedOver true = [(s.txData, s.txLast)] :=
  if_pos ⟨h, rfl⟩

theorem handedOver_eq_nil {s : State} {ready : Bool} (h : ¬ (s.txValid = true ∧ ready = true)) : s.handedOver ready = [] :=
  if_neg h

/-- `handedOver` as the two stores of R203 take it: the pair for `TXS`, the byte for the transport. -/
theorem emits_handedOver_iff {s t : State} {ready : Bool} : Emits s t (s.handedOver ready) ↔
    t.txs = s.txs ++ (if s.txValid = true ∧ ready = true then [(s.txData, s.txLast)] else []) ∧
    t.wire = s.wire ++ (if s.txValid = true ∧ ready = true then [s.txData] else []) := by
  have hbytes : (s.handedOver ready).map Prod.fst = if s.txValid = true ∧ ready = true then [s.txData] else [] := by
    rw [State.handedOver, apply_ite (List.map Prod.fst)]
    rfl
  rw [Emits, hbytes]
  rfl

/-- Taking the line off moves only the counter, which an offered byte does not depend on. -/
theorem handedOver_popLine (s : State) (ready : Bool) : s.popLine.handedOver ready = s.handedOver ready := by
  by_cases hv : s.txValid = true
  · obtain ⟨hdata, hlast⟩ : s.popLine.txData = s.txData ∧ s.popLine.txLast = s.txLast := by
      rcases (txValid_iff s).1 hv with h | h
      · obtain ⟨hd, hl⟩ := ports_of_txc h
        exact (ports_of_txc (s := s.popLine) h).imp (·.trans hd.symm) (·.trans hl.symm)
      · obtain ⟨hd, hl⟩ := ports_of_txe h
        exact (ports_of_txe (s := s.popLine) h).imp (·.trans hd.symm) (·.trans hl.symm)
    rw [State.handedOver, hdata, hlast]
    rfl
  · rw [handedOver_eq_nil fun h => hv h.1]
    exact handedOver_eq_nil fun h => hv h.1

theorem emits_countFrame (s : State) : Emits s s.countFrame [] := by
  rw [emits_nil_iff, State.countFrame]
  split_ifs <;> exact ⟨rfl, rfl⟩

theorem emits_sendCoef (s : State) :
    Emits s s.sendCoef [(s.coefByte s.txidx.toNat, s.atLast s.cfg.coefFrameLen)] := by
  simp only [Emits, State.sendCoef]
  split_ifs <;> exact ⟨rfl, rfl⟩

theorem emits_sendErr (s : State) :
    Emits s s.sendErr [(s.errByte s.txidx.toNat, s.atLast s.cfg.errFrameLen)] := by
  simp only [Emits, State.sendErr]
  split_ifs <;> exact ⟨rfl, rfl⟩

/-- Only `TXC` and `TXE` emit, and only to a transport that is ready (R202, R204). -/
theorem effect_emits_nil {i : Instr} {s : State} (h : i = .txc ∨ i = .txe → s.txReady = false) :
    Emits s (effect i s) [] := by
  rw [emits_nil_iff]
  cases i with
  | txc => rw [effect, h (.inl rfl)]; exact ⟨rfl, rfl⟩
  | txe => rw [effect, h (.inr rfl)]; exact ⟨rfl, rfl⟩
  | nextf => exact emits_nil_iff.1 (emits_countFrame s)
  | wait => rw [effect]; split_ifs <;> exact ⟨rfl, rfl⟩
  | _ => exact ⟨rfl, rfl⟩

/-- The operation that `PH` names emits what the ports hand over. -/
theorem effect_emits_handedOver {i : Instr} {s : State} (hi : encode i = .s s.ph) :
    Emits s (effect i s) (s.handedOver s.txReady) := by
  by_cases hv : s.txValid = true ∧ s.txReady = true
  · obtain ⟨hv, hr⟩ := hv
    rw [hr, handedOver_of_valid hv]
    rcases (txValid_iff s).1 hv with h | h
    · obtain rfl : i = .txc := encode_injective (hi.trans (congrArg Code.s h))
      obtain ⟨hd, hl⟩ := ports_of_txc h
      rw [hd, hl, effect, if_pos hr]
      exact emits_sendCoef s
    · obtain rfl : i = .txe := encode_injective (hi.trans (congrArg Code.s h))
      obtain ⟨hd, hl⟩ := ports_of_txe h
      rw [hd, hl, effect, if_pos hr]
      exact emits_sendErr s
  · rw [handedOver_eq_nil hv]
    refine effect_emits_nil fun htx => ?_
    have hvalid : s.txValid = true := by
      rw [txValid_iff]
      rcases htx with rfl | rfl
      · exact .inl (Code.s.inj hi).symm
      · exact .inr (Code.s.inj hi).symm
    simpa [hvalid] using hv

theorem seqStep_emits {s t : State} {ready : Bool} (h : seqStep ready s = .next t) :
    Emits s t (s.handedOver ready) := by
  obtain ⟨i, hi, h⟩ := seqStep_eq_next h
  obtain ⟨-, -, rfl⟩ := exec_eq_next_iff.1 h
  exact effect_emits_handedOver (s := s.withReady ready) hi

theorem exec_emits_nil {i : Instr} (hi : ∀ p, encode i ≠ .s p) {s t : State} (h : exec i s = .next t) :
    Emits s t [] := by
  obtain ⟨-, -, rfl⟩ := exec_eq_next_iff.1 h
  refine effect_emits_nil fun htx => ?_
  rcases htx with rfl | rfl <;> exact absurd rfl (hi _)

theorem exec_event_emits_nil {ev : BitVec 2} {s t : State} (h : exec (decodeEvent ev) s = .next t) : Emits s t [] :=
  exec_emits_nil (encode_event_ne_phase ev) h

theorem runPrimLine_emits_nil {fn : BitVec 4} {a b : Sample} {s t : State} (h : runPrimLine fn a b s = .next t) :
    Emits s t [] := by
  obtain ⟨i, hi, h⟩ := runPrimLine_eq_next h
  have hu : Emits (s.withOperands a b) t [] := exec_emits_nil (fun p hp => by cases hi.symm.trans hp) h
  exact hu

/-- A clocked step emits what the ports hand over, whether it schedules the sequencer or not (R76). -/
theorem runClock_emits {inp : StepInput} {s t : State} (hrst : inp.rst = false) (h : runClock inp s = .next t) :
    Emits s t (s.handedOver inp.txReady) := by
  by_cases ha : seqActs inp s = true
  · rw [runClock_of_acts hrst ha] at h
    obtain ⟨u, hu, h⟩ := andThen_eq_next h
    exact (seqStep_emits hu).trans_nil (exec_event_emits_nil h)
  · have hidle : ¬ (s.txValid = true ∧ inp.txReady = true) := by
      rw [seqActs_iff, ← txValid_iff] at ha
      exact fun hmove => ha (.inr hmove)
    rw [runClock_of_event hrst ha] at h
    rw [handedOver_eq_nil hidle]
    have hu : Emits (s.withReady inp.txReady) t [] := exec_event_emits_nil h
    exact hu

/-- Settles O58: the ports read off the state, and each kind of step emits `handedOver` or nothing. -/
theorem bytesLeaveThroughThePort : Obligations.BytesLeaveThroughThePort := by
  unfold Obligations.BytesLeaveThroughThePort
  refine ⟨?_, ?_, ?_, ?_⟩
  · intro s
    refine ⟨decide_eq_true_iff, rfl, txValid_iff s, fun h => ?_, fun h => ?_⟩
    · obtain ⟨hdata, hlast⟩ := ports_of_txc h
      exact ⟨hdata, by rw [hlast]; exact decide_eq_true_iff⟩
    · obtain ⟨hdata, hlast⟩ := ports_of_txe h
      exact ⟨hdata, by rw [hlast]; exact decide_eq_true_iff⟩
  · intro s t ready _ h
    exact emits_handedOver_iff.1 (seqStep_emits h)
  · intro s t inp hline hrst h
    rw [step_of_nextLine hline] at h
    have hemits := runClock_emits hrst h
    rw [handedOver_popLine] at hemits
    exact emits_handedOver_iff.1 hemits
  · rintro s t (⟨ev, hline⟩ | ⟨fn, a, b, hline⟩) h <;> rw [step_of_nextLine hline] at h
    · have hemits : Emits s.popLine t [] := exec_event_emits_nil h
      exact emits_nil_iff.1 hemits
    · have hemits : Emits s.popLine t [] := runPrimLine_emits_nil h
      exact emits_nil_iff.1 hemits

/-! ### The clocked step -/

/-- The operation of `START` followed by the event on the `mu` channel (R77, R183, R218). -/
theorem runClock_start_evmu {s : State} (hl : legal s) (hph : s.ph = phStart) (ready : Bool) :
    runClock ⟨false, true, false, ready, true⟩ s =
      .next (effect .evmu (effect .start (s.withReady ready))) := by
  have hi : encode .start = .s s.ph := by rw [hph]; rfl
  have hev : decodeEvent (eventCode true false) = .evmu := by decide
  have hstart : legal (effect .start (s.withReady ready)) := legal_effect hl (enabled_of_encode hi)
  rw [runClock_of_acts rfl ((seqActs_iff _ _).2 (.inl rfl)), seqStep_of_legal hl hi, andThen_next, hev]
  exact exec_of_legal hstart nofun

/-- Settles O45: the first two clauses are the two cases of a clocked step without reset, the third runs the first one in
`START`. -/
theorem clockedEventComesAfterOperation : Obligations.ClockedEventComesAfterOperation := by
  unfold Obligations.ClockedEventComesAfterOperation
  refine ⟨?_, ?_, ?_⟩
  · intro s rest inp i j hsched hrst hacts hi hj
    have hacts : seqActs inp s.popLine = true := (seqActs_iff inp s.popLine).2 hacts
    have hop : seqStep inp.txReady s.popLine = exec i (s.popLine.withReady inp.txReady) :=
      seqStep_of_decode (s := s.popLine) hi _
    calc step s
      _ = runClock inp s.popLine := step_of_nextLine (nextLine_of_cons hsched)
      _ = andThen (exec i (s.popLine.withReady inp.txReady)) (exec j) := by
        rw [runClock_of_acts hrst hacts, hop, ← Except.ok.inj hj]
        rfl
      _ = _ := by rw [popLine_of_cons hsched]; rfl
  · intro s rest inp j hsched hrst hseq hstall hj
    have hidle : ¬ seqActs inp s.popLine = true := by
      rw [seqActs_iff, hseq]
      rintro (h | ⟨hph, hready⟩)
      · cases h
      · cases hready.symm.trans (hstall hph)
    calc step s
      _ = runClock inp s.popLine := step_of_nextLine (nextLine_of_cons hsched)
      _ = exec j (s.popLine.withReady inp.txReady) := by
        rw [runClock_of_event hrst hidle, ← Except.ok.inj hj]
        rfl
      _ = _ := by rw [popLine_of_cons hsched]; rfl
  · intro s rest ready hl hph hsched
    have hstep : step s = runClock ⟨false, true, false, ready, true⟩ s.popLine :=
      step_of_nextLine (nextLine_of_cons hsched)
    have hrun := runClock_start_evmu (s := s.popLine) hl hph ready
    exact ⟨_, hstep.trans hrun, rfl, rfl, stairReg_toNat s.mu, rfl, rfl, rfl⟩

end Sys2Proof.Machine
end

section
/-! PROOFS. 30_encoding.md: the tables of codes both ways and the reserved codes (R97 to R99, R104), and what a line of a
schedule runs, or is stopped at (R95, R106). -/

namespace Sys2Proof

/-! ### The tables of codes -/

/-- A primitive's code past the table of R97 is reserved (R104). -/
theorem decode_reservedPrimitive {fn : BitVec 4} (h : 9 ≤ fn.toNat) : decode (.p fn) = .error (.reservedPrimitive fn) := by
  have htable : ∀ fn : BitVec 4, 9 ≤ fn.toNat → decodePrim fn = .error (.reservedPrimitive fn) := by decide
  exact htable fn h

/-- A phase past the table of R98 is reserved (R104). -/
theorem decode_reservedPhase {ph : BitVec 4} (h : 10 ≤ ph.toNat) : decode (.s ph) = .error (.reservedPhase ph) := by
  have htable : ∀ ph : BitVec 4, 10 ≤ ph.toNat → decodePhase ph = .error (.reservedPhase ph) := by decide
  exact htable ph h

/-- The bound of each format's well-formed codes is where its table ends (R104). -/
theorem wf_eq_isSome_decode (c : Code) : c.wf = (decode c).toOption.isSome := by
  have hprim : ∀ fn : BitVec 4, (Code.p fn).wf = (decodePrim fn).toOption.isSome := by decide
  have hphase : ∀ ph : BitVec 4, (Code.s ph).wf = (decodePhase ph).toOption.isSome := by decide
  cases c with
  | p fn => exact hprim fn
  | s ph => exact hphase ph
  | e ev => rfl

theorem wf_iff_decodes (c : Code) : c.wf = true ↔ ∃ i, decode c = .ok i := by
  rw [wf_eq_isSome_decode]
  cases decode c with
  | ok i => exact ⟨fun _ => ⟨i, rfl⟩, fun _ => rfl⟩
  | error e => exact ⟨nofun, nofun⟩

/-- Settles O1: the decoder reads each operation from its own code, from no other, and from every code that is not reserved. -/
theorem encodeDecodeAgree : Obligations.EncodeDecodeAgree := by
  unfold Obligations.EncodeDecodeAgree
  exact ⟨decode_encode, fun _ _ => encode_of_decode, wf_iff_decodes⟩

/-- Settles O2: each code written out is the one `encode` gives its operation, or past the end of its table. -/
theorem tableCodesDecode : Obligations.TableCodesDecode := by
  unfold Obligations.TableCodesDecode
  exact ⟨decode_encode .macc, decode_encode .qmul, decode_encode .amean, decode_reservedPrimitive (by decide),
    decode_encode .wait, decode_encode .adapt, decode_encode .txe, decode_reservedPhase (by decide),
    decode_encode .evmu, decode_encode .evpow⟩

end Sys2Proof

namespace Sys2Proof.Machine

/-! ### The lines of a schedule -/

/-- A `SEQ` line that names the phase `PH` holds is the sequencer's step; for `WAIT` with `RESTART` = 1 (R106). -/
theorem runSeqLine_of_named {s : State} (h : s.ph = phWait → s.restart = true) : runSeqLine s.ph s = seqStep true s := by
  refine if_neg ?_
  rintro ⟨-, hother | ⟨hwait, hrestart⟩⟩
  · exact hother rfl
  · cases hrestart.symm.trans (h hwait)

theorem runSeqLine_of_illFormed {s : State} {p : BitVec 4} (hp : phaseLegal s)
    (h : p ≠ s.ph ∨ (s.ph = phWait ∧ s.restart = false)) : runSeqLine p s = .refused .illFormedSchedule :=
  if_pos ⟨hp, h.imp_left Ne.symm⟩

/-- With a reserved phase no `SEQ` line is ill-formed: whatever it names, the sequencer's step is taken (log 12). -/
theorem runSeqLine_of_not_phaseLegal {s : State} (hp : ¬ phaseLegal s) (p : BitVec 4) : runSeqLine p s = seqStep true s :=
  if_neg fun h => hp h.1

theorem runPrimLine_of_decode {fn : BitVec 4} {i : Instr} (h : decode (.p fn) = .ok i) (a b : Sample) (s : State) :
    runPrimLine fn a b s = exec i (s.withOperands a b) := by
  rw [runPrimLine, h]

theorem runLine_event_of_decode {ev : BitVec 2} {i : Instr} (h : decode (.e ev) = .ok i) (s : State) :
    runLine (.ev ev) s = exec i s := by
  cases h
  rfl

/-- Settles O44: each of the three lines runs the operation its code decodes to, in the state with the line taken off. -/
theorem stepRunsDecodedOperation : Obligations.StepRunsDecodedOperation := by
  unfold Obligations.StepRunsDecodedOperation
  intro s rest i
  refine ⟨?_, ?_, ?_⟩
  · intro hsched hi hwait
    calc step s
      _ = runSeqLine s.ph s.popLine := step_of_nextLine (nextLine_of_cons hsched)
      _ = seqStep true s.popLine := runSeqLine_of_named (s := s.popLine) hwait
      _ = exec i (s.popLine.withReady true) := seqStep_of_decode (s := s.popLine) hi true
      _ = _ := by rw [popLine_of_cons hsched]; rfl
  · intro ev hsched hi
    calc step s
      _ = runLine (.ev ev) s.popLine := step_of_nextLine (nextLine_of_cons hsched)
      _ = exec i s.popLine := runLine_event_of_decode hi s.popLine
      _ = _ := by rw [popLine_of_cons hsched]
  · intro fn a b hsched hi
    calc step s
      _ = runPrimLine fn a b s.popLine := step_of_nextLine (nextLine_of_cons hsched)
      _ = exec i (s.popLine.withOperands a b) := runPrimLine_of_decode hi a b s.popLine
      _ = _ := by rw [popLine_of_cons hsched]; rfl

/-- Settles O53: the line is checked against the phase before the configuration and the state are looked at (log 12). -/
theorem seqLineMustNamePhase : Obligations.SeqLineMustNamePhase := by
  unfold Obligations.SeqLineMustNamePhase
  intro s p rest hp hsched hbad
  calc step s
    _ = runSeqLine p s.popLine := step_of_nextLine (nextLine_of_cons hsched)
    _ = .refused .illFormedSchedule := runSeqLine_of_illFormed (s := s.popLine) hp hbad

/-! ### Reserved phases -/

/-- The guard faults before an operation of the sequencer compares the phase with its own (R104, R252). -/
theorem exec_reservedPhase {s : State} (hc : configLegal s.cfg) (hl : storeLengths s) (hp : ¬ phaseLegal s) (i : Instr) :
    exec i s = .fault .reservedPhase := by
  cases hi : encode i with
  | s p => rw [exec_of_phase hi]; exact guarded_reservedPhase hc hl hp _
  | p | e =>
    rw [exec_of_noPhase (by rw [hi]; nofun)]
    exact guarded_reservedPhase hc hl hp _

/-- A reserved phase names no operation, and the sequencer's step is the fault itself. -/
theorem seqStep_reservedPhase {s : State} (hc : configLegal s.cfg) (hl : storeLengths s) (hp : 10 ≤ s.ph.toNat)
    (ready : Bool) : seqStep ready s = .fault .reservedPhase := by
  rw [seqStep, decode_reservedPhase hp]
  exact guarded_reservedPhase hc hl (by omega) _

/-- Settles O51: the operations through their guard, the `SEQ` line through the sequencer's step. -/
theorem reservedPhaseFaults : Obligations.ReservedPhaseFaults := by
  unfold Obligations.ReservedPhaseFaults
  intro s hc hl hp
  have hillegal : ¬ phaseLegal s := by omega
  refine ⟨exec_reservedPhase hc hl hillegal, ?_⟩
  intro p rest hsched
  calc step s
    _ = runSeqLine p s.popLine := step_of_nextLine (nextLine_of_cons hsched)
    _ = seqStep true s.popLine := runSeqLine_of_not_phaseLegal (s := s.popLine) hillegal p
    _ = .fault .reservedPhase := seqStep_reservedPhase (s := s.popLine) hc hl hp true

end Sys2Proof.Machine
end

section
/-! PROOFS. 40_fixed_point.md: the arithmetic of the unit. Rounding and clamping (R111, R112), the accumulator's operations and
the dot product (R113 to R115, R122), `AMEAN` (R121), the operations on samples (R116 to R120), and the primitives run alone. -/

namespace Sys2Proof.Machine

open Sys2Proof.Claims

/-! ### Rounding and clamping -/

/-- `rnd15` is a floor: the bounds from below are those of the shifted operand. -/
theorem le_rnd15_iff {p q : Int} : q ≤ rnd15 p ↔ 32768 * q ≤ p + 16384 := by
  rw [rnd15, Int.le_ediv_iff_mul_le (by decide), mul_comm]

theorem rnd15_lt_iff {p q : Int} : rnd15 p < q ↔ p + 16384 < 32768 * q := by
  rw [← not_le, le_rnd15_iff, not_le]

theorem rnd15_mono {p q : Int} (h : p ≤ q) : rnd15 p ≤ rnd15 q :=
  Int.ediv_le_ediv (by decide) (by omega)

/-- Negation commutes with rounding except at a tie, which goes up on either side of zero. -/
theorem rnd15_neg_ne_iff (p : Int) : rnd15 (-p) ≠ -rnd15 p ↔ p % 32768 = 16384 := by
  unfold rnd15
  omega

/-- Settles O3: the two bounds are those of a floor, and the ties are where it is not odd. -/
theorem roundingIsHalfUp : Obligations.RoundingIsHalfUp := by
  unfold Obligations.RoundingIsHalfUp
  exact ⟨fun _ => ⟨le_rnd15_iff.1 le_rfl, rnd15_lt_iff.1 (Int.lt_succ _)⟩, rnd15_neg_ne_iff, fun _ _ => rnd15_mono,
    by decide⟩

theorem sat16_eq_clip (v : Int) : sat16 v = clip v := by
  unfold sat16 clip
  split_ifs <;> omega

theorem sat16_of_le {v : Int} (h : v ≤ -32768) : sat16 v = -32768 := by
  rw [sat16_eq_clip, clip]
  omega

theorem sat16_of_ge {v : Int} (h : 32767 ≤ v) : sat16 v = 32767 := by
  rw [sat16_eq_clip, clip]
  omega

theorem sat16_mono {u v : Int} (h : u ≤ v) : sat16 u ≤ sat16 v := by
  rw [sat16_eq_clip, sat16_eq_clip]
  exact max_le_max_left _ (min_le_min_left _ h)

/-- The clamp acts exactly outside the range. -/
theorem sat16_ne_self_iff (v : Int) : sat16 v ≠ v ↔ v < -32768 ∨ 32767 < v := by
  rw [sat16_eq_clip, clip]
  omega

theorem abs_sat16_le (v : Int) : |sat16 v| ≤ |v| := by
  have hneg := neg_abs_le v
  have hpos := le_abs_self v
  rw [sat16_eq_clip, clip, abs_le]
  omega

/-- Settles O4: below, above and inside the range; the clamped value lies inside it. -/
theorem saturationClampsToSample : Obligations.SaturationClampsToSample := by
  unfold Obligations.SaturationClampsToSample
  refine ⟨fun v => ⟨fun h => sat16_of_le h.le, fun h => sat16_of_ge h.le, fun h => sat16_of_bounds h.1 h.2⟩, ?_,
    fun _ _ => sat16_mono, by decide⟩
  intro v
  exact sat16_of_bounds (sat16_bounds v).1 (sat16_bounds v).2

/-! ### The product of two samples -/

/-- The least product of two samples is `-32768 * 32767` (R114). -/
theorem le_product (a b : Sample) : -1073709056 ≤ a.toInt * b.toInt := by
  have ha := sample_bounds a
  have hb := sample_bounds b
  nlinarith

/-- A factor other than -32768 keeps the product 32768 below `2^30`. -/
theorem product_le_of_ne {a : Sample} (h : a ≠ -32768) (b : Sample) : a.toInt * b.toInt ≤ 1073709056 := by
  have hne : a.toInt ≠ -32768 := fun ht => h (BitVec.eq_of_toInt_eq ht)
  have ha := sample_bounds a
  have ha' : -32767 ≤ a.toInt := by omega
  have hb := sample_bounds b
  nlinarith

/-- One pair of samples has a rounded product above the sample range (R116). -/
theorem rnd15_product_gt_iff (a b : Sample) : 32767 < rnd15 (a.toInt * b.toInt) ↔ a = -32768 ∧ b = -32768 := by
  constructor
  · intro h
    have hp : 32768 * (32767 + 1) ≤ a.toInt * b.toInt + 16384 := le_rnd15_iff.1 h
    constructor
    · by_contra ha
      have := product_le_of_ne ha b
      omega
    · by_contra hb
      have := product_le_of_ne hb a
      rw [mul_comm] at this
      omega
  · rintro ⟨rfl, rfl⟩
    decide

theorem le_rnd15_product (a b : Sample) : -32767 ≤ rnd15 (a.toInt * b.toInt) := by
  have := le_product a b
  exact le_rnd15_iff.2 (by omega)

theorem abs_product_le (a b : Sample) : |a.toInt * b.toInt| ≤ 1073741824 := abs_le.2 (product_bounds a b)

/-! ### `MACC`, `ASCL` and the dot product -/

theorem acc_bounds (acc : Acc) : -549755813888 ≤ acc.toInt ∧ acc.toInt ≤ 549755813887 := by
  have hlow := BitVec.le_toInt acc
  have hhigh := BitVec.toInt_lt (x := acc)
  norm_num at hlow hhigh
  omega

theorem satAcc_eq_clamp (v : Int) : satAcc v = max (-2 ^ 39) (min (2 ^ 39 - 1) v) := by
  unfold satAcc
  split_ifs <;> omega

/-- `MACC`'s sum, whether the clamp acts or not (R114). -/
theorem macc_toInt_clamped (acc : Acc) (a b : Sample) :
    (macc acc a b).toInt = max (-2 ^ 39) (min (2 ^ 39 - 1) (acc.toInt + a.toInt * b.toInt)) := by
  rw [← satAcc_eq_clamp, macc, BitVec.toInt_ofInt]
  apply Int.bmod_eq_of_le <;> rw [satAcc_eq_clamp] <;> omega

theorem macc_of_product_zero {acc : Acc} {a b : Sample} (h : a.toInt * b.toInt = 0) : macc acc a b = acc := by
  apply BitVec.eq_of_toInt_eq
  have := acc_bounds acc
  rw [macc_toInt] <;> omega

/-- Settles O6: the clamped exact sum, the range of a product, and a product of 0. -/
theorem maccAddsExactProduct : Obligations.MaccAddsExactProduct := by
  unfold Obligations.MaccAddsExactProduct
  refine ⟨rfl, macc_toInt_clamped, fun a b => ⟨le_product a b, (product_bounds a b).2⟩, ?_, by decide⟩
  rintro acc a b (rfl | rfl)
  · exact macc_of_product_zero (zero_mul _)
  · exact macc_of_product_zero (mul_zero _)

theorem ascl_toInt_eq_clip (acc : Acc) : (ascl acc).toInt = clip (scale acc.toInt) :=
  (ascl_toInt acc).trans (sat16_eq_clip _)

/-- Settles O7: the thresholds are where the rounded quotient reaches an end of the sample range. -/
theorem asclScalesAccumulator : Obligations.AsclScalesAccumulator := by
  unfold Obligations.AsclScalesAccumulator
  refine ⟨rfl, ascl_toInt_eq_clip, ?_, ?_, by decide⟩
  · intro acc h
    have hr : 32767 ≤ rnd15 acc.toInt := le_rnd15_iff.2 (by omega)
    exact BitVec.eq_of_toInt_eq ((ascl_toInt acc).trans (sat16_of_ge hr))
  · intro acc h
    have hr : rnd15 acc.toInt < -32767 := rnd15_lt_iff.2 (by omega)
    exact BitVec.eq_of_toInt_eq ((ascl_toInt acc).trans (sat16_of_le (by omega)))

/-- One more tap is one more `MACC`, at the end. -/
theorem maccAll_take_succ (acc : Acc) {c d : List Sample} {n : Nat} (hc : n < c.length) (hd : n < d.length) :
    maccAll acc (c.take (n + 1)) d = macc (maccAll acc (c.take n) d) (c.getD n 0) (d.getD n 0) := by
  induction c generalizing n d acc with
  | nil => cases hc
  | cons x c ih =>
    obtain ⟨y, d, rfl⟩ := List.exists_cons_of_length_pos (Nat.zero_lt_of_lt hd)
    cases n with
    | zero => simp [maccAll]
    | succ n => exact ih (macc acc x y) (Nat.lt_of_succ_lt_succ hc) (Nat.lt_of_succ_lt_succ hd)

/-- The accumulator after the first `n` taps. -/
theorem maccAll_take_toInt {c d : List Sample} {n : Nat} (hc : n ≤ c.length) (hd : n ≤ d.length) :
    (maccAll 0 (c.take n) d).toInt = accSum n fun i => raw c i * raw d i := by
  induction n with
  | zero => simp [maccAll, accSum]
  | succ n ih => rw [maccAll_take_succ 0 hc hd, macc_toInt_clamped, ih (by omega) (by omega), accSum, raw, raw]

/-- The accumulator of a dot product, clamped at every term (R133). -/
theorem maccAll_toInt_eq_accSum {c d : List Sample} (h : c.length ≤ d.length) :
    (maccAll 0 c d).toInt = accSum c.length fun i => raw c i * raw d i := by
  have hall := maccAll_take_toInt le_rfl h
  rwa [List.take_length] at hall

theorem dot_toInt_eq_clip {c d : List Sample} (h : c.length ≤ d.length) :
    (dot c d).toInt = clip (scale (accSum c.length fun i => raw c i * raw d i)) := by
  rw [dot, ascl_toInt_eq_clip, dotAcc, maccAll_toInt_eq_accSum h]

theorem abs_sum_range_le {n : Nat} {f : Nat → Int} {m : Int} (h : ∀ i < n, |f i| ≤ m) :
    |∑ i ∈ Finset.range n, f i| ≤ n * m := by
  calc |∑ i ∈ Finset.range n, f i|
    _ ≤ ∑ i ∈ Finset.range n, |f i| := Finset.abs_sum_le_sum_abs f _
    _ ≤ ∑ _i ∈ Finset.range n, m := Finset.sum_le_sum fun i hi => h i (Finset.mem_range.1 hi)
    _ = n * m := by simp

/-- Below 512 terms the partial sums stay inside 40 bits, so that no clamp acts (R122). -/
theorem accSum_eq_sum {n : Nat} {f : Nat → Int} (hn : n < 512) (h : ∀ i < n, |f i| ≤ 2 ^ 30) :
    accSum n f = ∑ i ∈ Finset.range n, f i := by
  induction n with
  | zero => rfl
  | succ n ih =>
    have hprev : accSum n f = ∑ i ∈ Finset.range n, f i := ih (by omega) fun i hi => h i (by omega)
    have hbound := abs_le.1 (abs_sum_range_le h)
    rw [accSum, hprev, ← Finset.sum_range_succ]
    omega

/-- Settles O15: term by term the accumulator is the clamped sum, and 511 products of samples do not reach the clamp. -/
theorem dotProductIsExactSum : Obligations.DotProductIsExactSum := by
  unfold Obligations.DotProductIsExactSum
  refine ⟨?_, fun _ _ => accSum_eq_sum, ?_⟩
  · rintro _ c d rfl hd
    exact ⟨maccAll_toInt_eq_accSum hd, dot_toInt_eq_clip hd⟩
  · rintro _ c d hn rfl hd
    have hsum : accSum c.length (fun i => raw c i * raw d i) = ∑ i ∈ Finset.range c.length, raw c i * raw d i :=
      accSum_eq_sum hn fun _ _ => abs_product_le _ _
    rw [← hsum]
    exact ⟨maccAll_toInt_eq_accSum hd, dot_toInt_eq_clip hd⟩

/-! ### `AMEAN` -/

theorem amean_of_nonneg (k b : Nat) {acc : Acc} (h : 0 ≤ acc.toInt) :
    amean k b acc = BitVec.ofNat 18 (min (acc.toInt.toNat / b) 262143) := by
  rw [amean, if_neg (not_lt.2 h), clampu, mseCeil]
  congr 1
  split_ifs <;> omega

theorem amean_toNat (k b : Nat) {acc : Acc} (h : 0 ≤ acc.toInt) :
    (amean k b acc).toNat = min (acc.toInt.toNat / b) 262143 := by
  rw [amean_of_nonneg k b h, BitVec.toNat_ofNat]
  exact Nat.mod_eq_of_lt (by omega)

/-- Settles O13: `AMEAN` in closed form, of any non-negative `ACC` and of the rule's. -/
theorem ameanDividesAndClamps : Obligations.AmeanDividesAndClamps := by
  unfold Obligations.AmeanDividesAndClamps
  refine ⟨rfl, ?_, ?_⟩
  · intro k b acc _ h
    rw [amean_toNat k b h, Nat.cast_min, Int.natCast_ediv, Int.toNat_of_nonneg h]
    rfl
  · intro k
    and_intros <;> exact (amean_of_nonneg k 100 (by decide)).trans (by decide)

/-! ### `QMUL`, `SADD`, `SSUB`, `SABS`, `UMIN` -/

theorem qmul_comm (a b : Sample) : qmul a b = qmul b a := by
  rw [qmul, qmul, mul_comm]

theorem abs_sample_le (a : Sample) : |a.toInt| ≤ 32768 := by
  have := sample_bounds a
  rw [abs_le]
  omega

/-- A factor of magnitude at most 1 (as a fraction) does not enlarge the rounded product. -/
theorem abs_rnd15_mul_le (x : Int) {y : Int} (hy : |y| ≤ 32768) : |rnd15 (x * y)| ≤ |x| := by
  have hxy : |x * y| ≤ |x| * 32768 := by
    rw [abs_mul]
    exact mul_le_mul_of_nonneg_left hy (abs_nonneg x)
  have hb := abs_le.1 hxy
  exact abs_le.2 ⟨le_rnd15_iff.2 (by omega), Int.le_of_lt_add_one (rnd15_lt_iff.2 (by omega))⟩

theorem abs_qmul_le_left (a b : Sample) : |(qmul a b).toInt| ≤ |a.toInt| := by
  rw [qmul_toInt]
  exact (abs_sat16_le _).trans (abs_rnd15_mul_le a.toInt (abs_sample_le b))

/-- -32768 is the result of no product. -/
theorem abs_qmul_le (a b : Sample) : |(qmul a b).toInt| ≤ 32767 := by
  rw [qmul_toInt, abs_le]
  exact ⟨sat16_mono (le_rnd15_product a b), (sat16_bounds _).2⟩

/-- The clamp of `QMUL` acts at its upper end only (R116). -/
theorem qmul_toInt_ne_iff (a b : Sample) :
    (qmul a b).toInt ≠ rnd15 (a.toInt * b.toInt) ↔ a = -32768 ∧ b = -32768 := by
  have hlow : -32767 ≤ rnd15 (a.toInt * b.toInt) := le_rnd15_product a b
  rw [qmul_toInt, sat16_ne_self_iff, ← rnd15_product_gt_iff]
  omega

/-- Settles O8: the pair that clamps is the one of largest product; either factor bounds the result. -/
theorem qmulRoundsProduct : Obligations.QmulRoundsProduct := by
  unfold Obligations.QmulRoundsProduct
  refine ⟨rfl, fun a b => (qmul_toInt a b).trans (sat16_eq_clip _), qmul_toInt_ne_iff, qmul_comm, ?_, qmul_zero_right,
    by decide⟩
  intro a b
  exact ⟨le_min (abs_qmul_le_left a b) (qmul_comm a b ▸ abs_qmul_le_left b a), abs_qmul_le a b⟩

theorem sadd_comm (a b : Sample) : sadd a b = sadd b a := by
  rw [sadd, sadd, add_comm]

/-- Settles O9: associativity fails at 32767, where the first sum clamps. -/
theorem saddSaturates : Obligations.SaddSaturates := by
  unfold Obligations.SaddSaturates
  exact ⟨rfl, fun a b => (sadd_toInt a b).trans (sat16_eq_clip _), sadd_comm, sadd_zero, by decide⟩

/-- Settles O10: the clamped difference; of equal samples it is 0. -/
theorem ssubSaturates : Obligations.SsubSaturates := by
  unfold Obligations.SsubSaturates
  exact ⟨rfl, fun a b => (ssub_toInt a b).trans (sat16_eq_clip _), ssub_self, by decide⟩

/-- Of the sample range only the upper end can stop an absolute value (R119). -/
theorem sabs_toInt_eq_min (a : Sample) : (sabs a).toInt = min 32767 |a.toInt| := by
  have hpos := abs_nonneg a.toInt
  rw [sabs_toInt, sat16_eq_clip, clip]
  omega

/-- Settles O11: the smaller of two values that are not negative. -/
theorem sabsSaturates : Obligations.SabsSaturates := by
  unfold Obligations.SabsSaturates
  refine ⟨rfl, fun a => ⟨sabs_toInt_eq_min a, ?_⟩, by decide⟩
  rw [sabs_toInt_eq_min]
  exact le_min (by decide) (abs_nonneg _)

section
variable (k : Nat) {a b c : Sample}

theorem umin_of_bounds (ha : a.toNat ≤ 32767) (hb : b.toNat ≤ 32767) :
    umin k a b = if a.toNat ≤ b.toNat then a else b := if_pos ⟨ha, hb⟩

theorem umin_toNat (ha : a.toNat ≤ 32767) (hb : b.toNat ≤ 32767) : (umin k a b).toNat = min a.toNat b.toNat := by
  rw [umin_of_bounds k ha hb, apply_ite BitVec.toNat, min_def]

theorem umin_comm (ha : a.toNat ≤ 32767) (hb : b.toNat ≤ 32767) : umin k a b = umin k b a := by
  apply BitVec.eq_of_toNat_eq
  rw [umin_toNat k ha hb, umin_toNat k hb ha, min_comm]

theorem umin_assoc (ha : a.toNat ≤ 32767) (hb : b.toNat ≤ 32767) (hc : c.toNat ≤ 32767) :
    umin k (umin k a b) c = umin k a (umin k b c) := by
  apply BitVec.eq_of_toNat_eq
  rw [umin_toNat k (umin_toNat_le k ha hb) hc, umin_toNat k ha (umin_toNat_le k hb hc), umin_toNat k ha hb,
    umin_toNat k hb hc, min_assoc]

theorem umin_self (ha : a.toNat ≤ 32767) : umin k a a = a := by
  apply BitVec.eq_of_toNat_eq
  rw [umin_toNat k ha ha, min_self]

end

/-- Settles O12: on its operand range `UMIN` is the minimum of the numbers, and has the laws of `min`. -/
theorem uminTakesSmaller : Obligations.UminTakesSmaller := by
  unfold Obligations.UminTakesSmaller
  exact ⟨rfl, fun k _ _ ha hb => ⟨umin_of_bounds k ha hb, umin_comm k ha hb⟩, fun k _ => umin_self k,
    fun k _ _ _ => umin_assoc k, fun k => umin_of_bounds k (by decide) (by decide)⟩

/-! ### The primitives run alone -/

/-- A primitive has no phase of its own, and completes in every legal state. -/
theorem exec_prim_of_legal {i : Instr} {fn : BitVec 4} (hi : encode i = .p fn) {s : State} (h : legal s) :
    exec i s = .next (effect i s) :=
  exec_of_legal h fun _ hp => nomatch hi.symm.trans hp

/-- Settles O5: the effect of `ACLR` names `ACC` only. -/
theorem aclrClearsAccumulator : Obligations.AclrClearsAccumulator := by
  unfold Obligations.AclrClearsAccumulator
  exact ⟨rfl, fun _ h => exec_prim_of_legal (i := .aclr) rfl h⟩

/-- Settles O14: each primitive's effect names its destination only. -/
theorem primitivesComplete : Obligations.PrimitivesComplete := by
  unfold Obligations.PrimitivesComplete
  intro s h
  exact ⟨exec_prim_of_legal (i := .aclr) rfl h, exec_prim_of_legal (i := .macc) rfl h,
    exec_prim_of_legal (i := .ascl) rfl h, exec_prim_of_legal (i := .qmul) rfl h,
    exec_prim_of_legal (i := .sadd) rfl h, exec_prim_of_legal (i := .ssub) rfl h,
    exec_prim_of_legal (i := .sabs) rfl h, exec_prim_of_legal (i := .umin) rfl h,
    exec_prim_of_legal (i := .amean) rfl h⟩

end Sys2Proof.Machine
end

section
/-! PROOFS. 41_plant_fir.md: a dot product over the delay line as the convolution of the block with the coefficients (R131 to
R133), and `PLANT` (R134, R135). -/

namespace Sys2Proof.Machine

open Sys2Proof.Claims

/-! ### The dot product over the line -/

/-- Tap `i` of the line just after sample `n` is the sample of `i` samples ago (R132). -/
theorem raw_lineAfter_succ {xs d : List Sample} {n i : Nat} (hn : n < xs.length) (hi : i < d.length) :
    raw (lineAfter xs d (n + 1)) i = tapSample xs d n i := by
  rw [raw, lineAfter_getD xs d (n + 1) i hn hi, tapSample]
  by_cases h : i ≤ n
  · rw [if_pos h, if_pos (Nat.lt_succ_of_le h), Nat.add_sub_cancel, raw]
  · rw [if_neg h, if_neg (by omega), Nat.sub_add_eq, raw]

theorem accSum_congr {n : Nat} {f g : Nat → Int} (h : ∀ i < n, f i = g i) : accSum n f = accSum n g := by
  induction n with
  | zero => rfl
  | succ n ih => rw [accSum, accSum, ih fun i hi => h i (Nat.lt_succ_of_lt hi), h n n.lt_succ_self]

/-- `ACC` after `DOT` over the line just after sample `n` (R132, R133). -/
theorem dotAcc_lineAfter_toInt {c xs d : List Sample} {n : Nat} (hc : c.length ≤ d.length) (hn : n < xs.length) :
    (dotAcc c (lineAfter xs d (n + 1))).toInt = accSum c.length fun i => raw c i * tapSample xs d n i :=
  calc (maccAll 0 c (lineAfter xs d (n + 1))).toInt
    _ = accSum c.length fun i => raw c i * raw (lineAfter xs d (n + 1)) i :=
      maccAll_toInt_eq_accSum (hc.trans_eq (lineAfter_length xs d (n + 1)).symm)
    _ = _ := accSum_congr fun _ hi => by rw [raw_lineAfter_succ hn (hi.trans_le hc)]

theorem ascl_eq_ofRaw (acc : Acc) : ascl acc = ofRaw (clip (scale acc.toInt)) := by
  rw [← ascl_toInt_eq_clip, ofRaw_toInt]

/-- The output sample of `DOT` over that line: the convolution, scaled and clamped. -/
theorem dot_lineAfter {c xs d : List Sample} {n : Nat} (hc : c.length ≤ d.length) (hn : n < xs.length) :
    dot c (lineAfter xs d (n + 1)) = ofRaw (clip (scale (accSum c.length fun i => raw c i * tapSample xs d n i))) := by
  rw [dot, ascl_eq_ofRaw, dotAcc_lineAfter_toInt hc hn]

/-- Either way a tap reads a sample, so that its product with a coefficient is bounded as in R114. -/
theorem abs_mul_tapSample_le (a : Sample) (xs d : List Sample) (n i : Nat) :
    |a.toInt * tapSample xs d n i| ≤ 1073741824 := by
  rw [tapSample]
  split_ifs <;> exact abs_product_le _ _

/-! ### `PLANT` -/

/-- The block's output samples (R134). -/
theorem plantRun_out_convolution {h d : List Sample} (hd : h.length ≤ d.length) (xs : List Sample) (acc : Acc) :
    (plantRun h xs d acc).out = (List.range xs.length).map fun n =>
      ofRaw (clip (scale (accSum h.length fun i => raw h i * tapSample xs d n i))) := by
  rw [plantRun_out]
  exact List.map_congr_left fun n hn => dot_lineAfter hd (List.mem_range.1 hn)

/-- After a block `ACC` holds the sum of its last sample, `n`. -/
theorem plantRun_acc_toInt {h xs d : List Sample} {n : Nat} (hd : h.length ≤ d.length) (hx : xs.length = n + 1)
    (acc : Acc) :
    (plantRun h xs d acc).acc.toInt = accSum h.length fun i => raw h i * tapSample xs d n i := by
  rw [plantRun_acc _ _ _ _ (List.ne_nil_of_length_eq_add_one hx), hx, dotAcc_lineAfter_toInt hd (by omega)]

/-- Settles O29: sample by sample the line holds the block so far before what it held, and `DOT` reads the taps off it; the
register keeps the sum of the last sample, of which a legal block has one. -/
theorem plantIsFirResponse : Obligations.PlantIsFirResponse := by
  unfold Obligations.PlantIsFirResponse
  refine ⟨rfl, fun s hs hph => ⟨s.plantBlock.acc, ?_⟩⟩
  obtain ⟨hcfg, ⟨-, hdlp, -, hxb, -⟩, -⟩ := id hs
  obtain ⟨-, -, ⟨htaps, -⟩, -⟩ := id hcfg
  obtain ⟨-, hblock, -⟩ := configLegal_sizes hcfg
  obtain ⟨hline, htapsLine, -⟩ := configLegal_lineLen hcfg
  have hfit : s.cfg.hCoef.length ≤ s.dlp.length := by omega
  have hlast : s.xb.length = s.cfg.block - 1 + 1 := by omega
  have hexec : exec .plant s = .next s.plantBlock := exec_of_legal hs (by rintro p ⟨⟩; exact hph)
  refine ⟨fun hlt n _ => accSum_eq_sum hlt fun i _ => abs_mul_tapSample_le _ _ _ _ _, ?_, ?_⟩
  · rw [State.plantBlock_acc, State.h, plantRun_acc_toInt hfit hlast, htaps]
  · rw [hexec, State.plantBlock, State.h, plantRun_dlp, plantRun_out_convolution hfit, lineAfter, List.take_length, hdlp,
      hline, hxb, htaps]

end Sys2Proof.Machine
end

section
/-! PROOFS. 42_lms_adaptive.md: `ADAPT` without its recursion over the block, then as the LMS recurrence on numbers (R141 to
R144), and the three ways in which no coefficient changes (R145 to R147). -/

namespace Sys2Proof.Machine

open Sys2Proof.Claims

/-! ### The block, sample by sample -/

/-- `e[n]` of `LMSS n` with the taps `c` (R141). -/
def lmsError (xs ds d c : List Sample) (n : Nat) : Sample := ssub (ds.getD n 0) (dot c (lineAfter xs d (n + 1)))

/-- The taps before `LMSS n`: each sample updates those that the one before it left (R142). -/
def lmsTaps (m : Sample) (xs ds w d : List Sample) : Nat → List Sample
  | 0 => w
  | n + 1 =>
    let c := lmsTaps m xs ds w d n
    updateTaps (qmul m (lmsError xs ds d c n)) c (lineAfter xs d (n + 1))

@[simp] theorem lmsTaps_zero (m : Sample) (xs ds w d : List Sample) : lmsTaps m xs ds w d 0 = w := rfl

section
variable (x r : Sample) (xs ds d c : List Sample)

theorem lmsError_cons_zero : lmsError (x :: xs) (r :: ds) d c 0 = ssub r (dot c (shiftLine d x)) := by
  rw [lmsError, lineAfter_cons, lineAfter_zero, List.getD_cons_zero]

theorem lmsError_cons_succ (n : Nat) :
    lmsError (x :: xs) (r :: ds) d c (n + 1) = lmsError xs ds (shiftLine d x) c n := by
  rw [lmsError, lineAfter_cons, List.getD_cons_succ, lmsError]

/-- The first sample's update first, and then the rest of the block from what it leaves. -/
theorem lmsTaps_cons (m : Sample) (w : List Sample) (n : Nat) :
    lmsTaps m (x :: xs) (r :: ds) w d (n + 1) = lmsTaps m xs ds (lmsSample m w d x r).w (shiftLine d x) n := by
  induction n with
  | zero => simp only [lmsTaps, lmsError_cons_zero, lineAfter_cons, lineAfter_zero, lmsSample]
  | succ n ih => rw [lmsTaps, ih, lmsTaps, lmsError_cons_succ, lineAfter_cons]

end

section
variable (m : Sample) {xs ds : List Sample} (w d : List Sample) (acc : Acc) (h : ds.length = xs.length)
include h

theorem lmsRun_w : (lmsRun m xs ds w d acc).w = lmsTaps m xs ds w d xs.length := by
  induction xs generalizing ds w d acc with
  | nil => simp [lmsRun]
  | cons x xs ih =>
    obtain ⟨r, ds, rfl⟩ := List.exists_cons_of_length_eq_add_one h
    rw [List.length_cons, lmsTaps_cons]
    exact ih _ _ _ (Nat.succ.inj h)

theorem lmsRun_yb : (lmsRun m xs ds w d acc).yb =
    (List.range xs.length).map fun n => dot (lmsTaps m xs ds w d n) (lineAfter xs d (n + 1)) := by
  induction xs generalizing ds w d acc with
  | nil => simp [lmsRun]
  | cons x xs ih =>
    obtain ⟨r, ds, rfl⟩ := List.exists_cons_of_length_eq_add_one h
    simp only [lmsRun, ih _ _ _ (Nat.succ.inj h), List.length_cons, List.range_succ_eq_map, List.map_cons, List.map_map,
      Function.comp_def, lmsTaps_cons, lineAfter_cons, lineAfter_zero, lmsTaps_zero, lmsSample]

theorem lmsRun_eb : (lmsRun m xs ds w d acc).eb =
    (List.range xs.length).map fun n => lmsError xs ds d (lmsTaps m xs ds w d n) n := by
  induction xs generalizing ds w d acc with
  | nil => simp [lmsRun]
  | cons x xs ih =>
    obtain ⟨r, ds, rfl⟩ := List.exists_cons_of_length_eq_add_one h
    simp only [lmsRun, ih _ _ _ (Nat.succ.inj h), List.length_cons, List.range_succ_eq_map, List.map_cons, List.map_map,
      Function.comp_def, lmsTaps_cons, lmsError_cons_zero, lmsError_cons_succ, lmsTaps_zero, lmsSample]

/-- The accumulator after a block holds the last sample's sum, `n`. -/
theorem lmsRun_acc {n : Nat} (hx : xs.length = n + 1) :
    (lmsRun m xs ds w d acc).acc = dotAcc (lmsTaps m xs ds w d n) (lineAfter xs d (n + 1)) := by
  induction n generalizing xs ds w d acc with
  | zero =>
    obtain ⟨x, xs, rfl⟩ := List.exists_cons_of_length_eq_add_one hx
    obtain ⟨r, ds, rfl⟩ := List.exists_cons_of_length_eq_add_one h
    obtain rfl := List.eq_nil_of_length_eq_zero (Nat.succ.inj hx)
    simp [lmsRun, lmsSample, lmsTaps, lineAfter_cons]
  | succ n ih =>
    obtain ⟨x, xs, rfl⟩ := List.exists_cons_of_length_eq_add_one hx
    obtain ⟨r, ds, rfl⟩ := List.exists_cons_of_length_eq_add_one h
    rw [lmsTaps_cons, lineAfter_cons]
    exact ih _ _ _ (Nat.succ.inj h) (Nat.succ.inj hx)

end

/-! ### The recurrence on numbers -/

/-- A store is made of its raw values. -/
theorem map_ofRaw_raw (c : List Sample) : ((List.range c.length).map fun i => ofRaw (raw c i)) = c := by
  apply List.ext_getElem (by simp)
  intro i _ hi
  simp [raw, ofRaw_toInt, hi]

section
variable {xs d : List Sample} (ds : List Sample)

theorem lmsError_toInt {c : List Sample} {n : Nat} (hc : c.length ≤ d.length) (hn : n < xs.length) :
    (lmsError xs ds d c n).toInt =
      clip (raw ds n - clip (scale (accSum c.length fun i => raw c i * tapSample xs d n i))) := by
  rw [lmsError, ssub_toInt, sat16_eq_clip, raw, dot, ascl_toInt_eq_clip, dotAcc_lineAfter_toInt hc hn]

variable (m : Sample) {w : List Sample} (hw : w.length ≤ d.length)
include hw

theorem lmsTaps_length (n : Nat) : (lmsTaps m xs ds w d n).length = w.length := by
  induction n with
  | zero => rfl
  | succ n ih => rw [lmsTaps, updateTaps_length _ _ _ (by rwa [ih, lineAfter_length]), ih]

/-- Step 4 of `LMSS n` on numbers, tap by tap (R141). -/
theorem raw_lmsTaps_succ {n i : Nat} (hn : n < xs.length) (hi : i < w.length) :
    raw (lmsTaps m xs ds w d (n + 1)) i = clip (raw (lmsTaps m xs ds w d n) i + clip (scale
      (clip (scale (m.toInt * (lmsError xs ds d (lmsTaps m xs ds w d n) n).toInt)) * tapSample xs d n i))) := by
  have hlen := lmsTaps_length (xs := xs) ds m hw n
  have hupdate := updateTaps_getD (qmul m (lmsError xs ds d (lmsTaps m xs ds w d n) n)) (lmsTaps m xs ds w d n)
    (lineAfter xs d (n + 1)) i (by omega) (by rwa [hlen, lineAfter_length])
  rw [← raw_lineAfter_succ hn (hi.trans_le hw), raw, lmsTaps, hupdate]
  simp only [raw, sadd_toInt, qmul_toInt, sat16_eq_clip, scale, rnd15]

end

/-! ### `ADAPT` -/

/-- The taps before sample `n` of the block that `ADAPT` runs over. -/
def State.tapsAt (s : State) (n : Nat) : List Sample := lmsTaps s.muRun s.xb s.db s.w s.dla n

/-- The sum of products for sample `n`, as `ACC` forms it. -/
def State.tapSum (s : State) (n : Nat) : Int :=
  accSum s.cfg.taps fun i => raw (s.tapsAt n) i * tapSample s.xb s.dla n i

theorem adapt_enabled {s : State} (hph : s.ph = phAdapt) : Enabled .adapt s := by rintro p ⟨⟩; exact hph

section
variable {s : State} (hs : legal s)
include hs

/-- The lengths of the stores that `ADAPT` reads. -/
theorem adapt_lengths : s.w.length = s.cfg.taps ∧ s.xb.length = s.cfg.block ∧ s.db.length = s.xb.length ∧
    s.dla.length = s.cfg.taps + s.cfg.block - 1 ∧ s.w.length ≤ s.dla.length := by
  obtain ⟨hcfg, ⟨hw, -, hdla, hxb, hdb, -⟩, -⟩ := hs
  obtain ⟨hline, hfit, -⟩ := configLegal_lineLen hcfg
  exact ⟨hw, hxb, hdb.trans hxb.symm, hdla.trans hline, by omega⟩

theorem tapsAt_length (n : Nat) : (s.tapsAt n).length = s.cfg.taps := by
  obtain ⟨hw, -, -, -, hfit⟩ := adapt_lengths hs
  exact (lmsTaps_length s.db s.muRun hfit n).trans hw

theorem tapsAt_length_le (n : Nat) : (s.tapsAt n).length ≤ s.dla.length := by
  obtain ⟨hw, -, -, -, hfit⟩ := adapt_lengths hs
  rwa [tapsAt_length hs, ← hw]

theorem lmsError_tapsAt_toInt {n : Nat} (hn : n < s.cfg.block) :
    (lmsError s.xb s.db s.dla (s.tapsAt n) n).toInt = clip (raw s.db n - clip (scale (s.tapSum n))) := by
  obtain ⟨-, hxb, -⟩ := adapt_lengths hs
  rw [lmsError_toInt s.db (tapsAt_length_le hs n) (by omega), tapsAt_length hs]
  rfl

theorem raw_tapsAt_succ {n i : Nat} (hn : n < s.cfg.block) (hi : i < s.cfg.taps) :
    raw (s.tapsAt (n + 1)) i = clip (raw (s.tapsAt n) i + clip (scale
      (clip (scale (s.muRun.toInt * clip (raw s.db n - clip (scale (s.tapSum n))))) * tapSample s.xb s.dla n i))) := by
  obtain ⟨hw, hxb, -, -, hfit⟩ := adapt_lengths hs
  rw [← lmsError_tapsAt_toInt hs hn]
  exact raw_lmsTaps_succ s.db s.muRun hfit (by omega) (by omega)

/-! The stores that `ADAPT` leaves, each first without the recursion over the block and then in numbers. -/

theorem adaptBlock_w_eq_tapsAt : s.adaptBlock.w = s.tapsAt s.cfg.block := by
  obtain ⟨-, hxb, hdb, -⟩ := adapt_lengths hs
  rw [State.adaptBlock_w, lmsRun_w _ _ _ _ hdb, hxb, State.tapsAt]

theorem adaptBlock_dla_eq_lineAfter : s.adaptBlock.dla = lineAfter s.xb s.dla s.xb.length := by
  obtain ⟨-, -, hdb, -⟩ := adapt_lengths hs
  exact lmsRun_dla _ _ _ _ _ _ hdb

theorem adaptBlock_yb_eq_dots : s.adaptBlock.yb =
    (List.range s.cfg.block).map fun n => dot (s.tapsAt n) (lineAfter s.xb s.dla (n + 1)) := by
  obtain ⟨-, hxb, hdb, -⟩ := adapt_lengths hs
  rw [State.adaptBlock_yb, lmsRun_yb _ _ _ _ hdb, hxb]
  rfl

theorem adaptBlock_eb_eq_errors : s.adaptBlock.eb =
    (List.range s.cfg.block).map fun n => lmsError s.xb s.db s.dla (s.tapsAt n) n := by
  obtain ⟨-, hxb, hdb, -⟩ := adapt_lengths hs
  rw [State.adaptBlock_eb, lmsRun_eb _ _ _ _ hdb, hxb]
  rfl

theorem adaptBlock_w_eq : s.adaptBlock.w = (List.range s.cfg.taps).map fun i => ofRaw (raw (s.tapsAt s.cfg.block) i) := by
  rw [adaptBlock_w_eq_tapsAt hs, ← tapsAt_length hs s.cfg.block, map_ofRaw_raw]

theorem adaptBlock_dla_eq : s.adaptBlock.dla = (s.xb.reverse ++ s.dla).take (s.cfg.taps + s.cfg.block - 1) := by
  obtain ⟨-, -, -, hdla, -⟩ := adapt_lengths hs
  rw [adaptBlock_dla_eq_lineAfter hs, lineAfter, List.take_length, hdla]

theorem adaptBlock_yb_eq :
    s.adaptBlock.yb = (List.range s.cfg.block).map fun n => ofRaw (clip (scale (s.tapSum n))) := by
  obtain ⟨-, hxb, -⟩ := adapt_lengths hs
  rw [adaptBlock_yb_eq_dots hs]
  refine List.map_congr_left fun n hn => ?_
  rw [State.tapSum, ← tapsAt_length hs n]
  exact dot_lineAfter (tapsAt_length_le hs n) (hxb ▸ List.mem_range.1 hn)

theorem adaptBlock_eb_eq :
    s.adaptBlock.eb = (List.range s.cfg.block).map fun n => ofRaw (clip (raw s.db n - clip (scale (s.tapSum n)))) := by
  rw [adaptBlock_eb_eq_errors hs]
  refine List.map_congr_left fun n hn => ?_
  rw [← lmsError_tapsAt_toInt hs (List.mem_range.1 hn), ofRaw_toInt]

/-- `ACC` keeps the sum of the block's last sample. -/
theorem adaptBlock_acc_toInt : s.adaptBlock.acc.toInt = s.tapSum (s.cfg.block - 1) := by
  obtain ⟨-, hxb, hdb, -⟩ := adapt_lengths hs
  obtain ⟨-, hblock, -⟩ := configLegal_sizes hs.1
  have hlast : s.xb.length = s.cfg.block - 1 + 1 := by omega
  rw [State.adaptBlock_acc, lmsRun_acc _ _ _ _ hdb hlast, State.tapSum, ← tapsAt_length hs (s.cfg.block - 1)]
  exact dotAcc_lineAfter_toInt (tapsAt_length_le hs _) (by omega)

/-- `ADAPT` as the recurrence says it (R144). -/
theorem adaptBlock_eq : s.adaptBlock = { s with
    w := (List.range s.cfg.taps).map fun i => ofRaw (raw (s.tapsAt s.cfg.block) i)
    dla := (s.xb.reverse ++ s.dla).take (s.cfg.taps + s.cfg.block - 1)
    yb := (List.range s.cfg.block).map fun n => ofRaw (clip (scale (s.tapSum n)))
    eb := (List.range s.cfg.block).map fun n => ofRaw (clip (raw s.db n - clip (scale (s.tapSum n))))
    acc := s.adaptBlock.acc
    ph := phMse } := by
  rw [← adaptBlock_w_eq hs, ← adaptBlock_dla_eq hs, ← adaptBlock_yb_eq hs, ← adaptBlock_eb_eq hs]
  rfl

end

/-- Settles O30: the coefficient vectors are the taps before each sample, and after the last. -/
theorem adaptIsLmsRecurrence : Obligations.AdaptIsLmsRecurrence := by
  unfold Obligations.AdaptIsLmsRecurrence
  refine ⟨rfl, fun s hs hph => ⟨fun n i => raw (s.tapsAt n) i, s.adaptBlock.acc, fun _ _ => rfl, ?_, ?_, ?_, ?_⟩⟩
  · exact fun n hn i hi => raw_tapsAt_succ hs hn hi
  · exact fun hlt n _ => accSum_eq_sum hlt fun i _ => abs_mul_tapSample_le _ _ _ _ _
  · exact adaptBlock_acc_toInt hs
  · exact (exec_of_legal hs (adapt_enabled hph)).trans (congrArg Host.Outcome.next (adaptBlock_eq hs))

/-! ### When no coefficient changes -/

/-- Where every product of the step size with a sample of the line is 0 the taps stay, since the next sample meets the same
ones. -/
theorem tapsAt_eq_self {s : State} (hs : legal s)
    (h : ∀ n < s.cfg.block, ∀ x ∈ lineAfter s.xb s.dla (n + 1),
      qmul (qmul s.muRun (lmsError s.xb s.db s.dla s.w n)) x = 0)
    {n : Nat} (hn : n ≤ s.cfg.block) : s.tapsAt n = s.w := by
  obtain ⟨-, -, -, -, hfit⟩ := adapt_lengths hs
  induction n with
  | zero => rfl
  | succ n ih =>
    rw [State.tapsAt, lmsTaps, ← State.tapsAt, ih (Nat.le_of_succ_le hn)]
    exact updateTaps_eq_self _ _ _ (hfit.trans_eq (lineAfter_length _ _ _).symm) (h n hn)

/-- The line holds samples of the block and of the line before. -/
theorem mem_of_mem_lineAfter {xs d : List Sample} {n : Nat} {x : Sample} (h : x ∈ lineAfter xs d n) :
    x ∈ xs ∨ x ∈ d := by
  rcases List.mem_append.1 (List.mem_of_mem_take h) with hx | hd
  · exact .inl (List.mem_of_mem_take (List.mem_reverse.1 hx))
  · exact .inr hd

theorem qmul_qmul_of_zero {a b : Sample} (h : a = 0 ∨ b = 0) (x : Sample) : qmul (qmul a b) x = 0 := by
  have hzero : qmul a b = 0 := by
    rcases h with rfl | rfl
    · exact qmul_zero_left b
    · exact qmul_zero_right a
  rw [hzero]
  exact qmul_zero_left x

/-- Settles O31: the step size of every sample is 0. -/
theorem zeroMuKeepsCoefficients : Obligations.ZeroMuKeepsCoefficients := by
  unfold Obligations.ZeroMuKeepsCoefficients
  intro s hs hph hmu
  refine ⟨s.adaptBlock, exec_of_legal hs (adapt_enabled hph), ?_⟩
  rw [adaptBlock_w_eq_tapsAt hs]
  exact tapsAt_eq_self hs (fun _ _ x _ => qmul_qmul_of_zero (.inl hmu) x) le_rfl

/-- Settles O32: every sample that the taps meet is 0. -/
theorem zeroInputKeepsCoefficients : Obligations.ZeroInputKeepsCoefficients := by
  unfold Obligations.ZeroInputKeepsCoefficients
  intro s hs hph hxb hdla
  have hzero : ∀ n, ∀ x ∈ lineAfter s.xb s.dla n, x = 0 := fun n x hx =>
    (mem_of_mem_lineAfter hx).elim (hxb x) (hdla x)
  refine ⟨s.adaptBlock, exec_of_legal hs (adapt_enabled hph), ?_, ?_⟩
  · rw [adaptBlock_w_eq_tapsAt hs]
    refine tapsAt_eq_self hs (fun n _ x hx => ?_) le_rfl
    rw [hzero _ x hx]
    exact qmul_zero_right _
  · rw [adaptBlock_dla_eq_lineAfter hs]
    exact hzero _

/-! ### A converged filter -/

/-- Products with zeros leave the accumulator as it is. -/
theorem maccAll_of_zeros (acc : Acc) {c : List Sample} (d : List Sample) (h : ∀ x ∈ c, x = 0) : maccAll acc c d = acc := by
  induction c generalizing d with
  | nil => rfl
  | cons x c ih =>
    obtain ⟨rfl, hc⟩ := List.forall_mem_cons.1 h
    cases d with
    | nil => rfl
    | cons y d => rw [maccAll, macc_of_product_zero (zero_mul _), ih d hc]

theorem amean_zero (k b : Nat) : amean k b 0 = 0 := by
  simp [amean_of_nonneg]

theorem umin_zero (k : Nat) {a : Sample} (ha : a.toNat ≤ 32767) : umin k a 0 = 0 := by
  apply BitVec.eq_of_toNat_eq
  simp [umin_toNat k ha]

theorem sabs_ssub_self (a : Sample) : sabs (ssub a a) = 0 := by
  rw [ssub_self]
  decide

/-- From any start the distance of a filter with a tap to itself is 0 (R170). -/
theorem tapDistance_self (k : Nat) {c : List Sample} (hc : c ≠ []) {m : Sample} (hm : m.toNat ≤ 32767) :
    tapDistance k c c m = 0 := by
  induction c generalizing m with
  | nil => exact absurd rfl hc
  | cons x c ih =>
    rw [tapDistance, sabs_ssub_self, umin_zero k hm]
    by_cases h : c = []
    · rw [h]
      rfl
    · exact ih h (by decide)

theorem mseBlock_et_of_zeros {s : State} (h : ∀ e ∈ s.eb, e = 0) : s.mseBlock.et = s.et.set s.frame.toNat 0 := by
  rw [State.mseBlock_et, maccAll_of_zeros 0 s.eb h, amean_zero]

theorem distBlock_dist_of_eq {s : State} (hs : legal s) (hw : s.w = s.cfg.hCoef) : s.distBlock.dist = 0 := by
  obtain ⟨hcfg, -⟩ := hs
  obtain ⟨-, -, ⟨hlen, -⟩, -⟩ := id hcfg
  obtain ⟨⟨htaps, -⟩, -⟩ := configLegal_sizes hcfg
  have hne : s.cfg.hCoef ≠ [] := List.ne_nil_of_length_pos (by omega)
  rw [State.distBlock_dist, hw]
  exact tapDistance_self s.tick hne (by decide)

section
variable {s : State} (hs : legal s)
  (href : s.db = (List.range s.cfg.block).map fun n => dot s.w (lineAfter s.xb s.dla (n + 1)))
include href

/-- Where the reference is what the filter puts out there is no error (R147). -/
theorem lmsError_of_reference {n : Nat} (hn : n < s.cfg.block) : lmsError s.xb s.db s.dla s.w n = 0 := by
  have hdb : s.db.getD n 0 = dot s.w (lineAfter s.xb s.dla (n + 1)) := by
    rw [href]
    simp [hn]
  rw [lmsError, hdb]
  exact ssub_self _

include hs

/-- With no error there is nothing to adapt to. -/
theorem tapsAt_of_reference {n : Nat} (hn : n ≤ s.cfg.block) : s.tapsAt n = s.w :=
  tapsAt_eq_self hs (fun _ hk x _ => qmul_qmul_of_zero (.inr (lmsError_of_reference href hk)) x) hn

theorem adaptBlock_w_of_reference : s.adaptBlock.w = s.w := by
  rw [adaptBlock_w_eq_tapsAt hs, tapsAt_of_reference hs href le_rfl]

theorem adaptBlock_yb_of_reference : s.adaptBlock.yb = s.db := by
  rw [adaptBlock_yb_eq_dots hs, href]
  refine List.map_congr_left fun n hn => ?_
  rw [tapsAt_of_reference hs href (List.mem_range.1 hn).le]

theorem adaptBlock_eb_of_reference : ∀ e ∈ s.adaptBlock.eb, e = 0 := by
  rw [adaptBlock_eb_eq_errors hs]
  refine List.forall_mem_map.2 fun n hn => ?_
  have hlt : n < s.cfg.block := List.mem_range.1 hn
  rw [tapsAt_of_reference hs href hlt.le, lmsError_of_reference href hlt]

end

/-- The state after `PLANT`, `ADAPT` and `MSE`. -/
def State.frameToMse (s : State) : State := s.plantBlock.adaptBlock.mseBlock

/-- The operations of a frame from `PLANT` to `DIST` complete one after the other. -/
theorem exec_plant_to_dist {s : State} (hs : legal s) (hph : s.ph = phPlant) :
    legal s.plantBlock ∧ legal s.frameToMse ∧
    andThen (andThen (andThen (exec .plant s) (exec .adapt)) (exec .mse)) (exec .dist) = .next s.frameToMse.distBlock := by
  have hplant : legal s.plantBlock := legal_plantBlock hs hph
  have hadapt : legal s.plantBlock.adaptBlock := legal_adaptBlock hplant rfl
  have hmse : legal s.frameToMse := legal_mseBlock hadapt rfl
  have eplant : exec .plant s = .next s.plantBlock := exec_of_legal hs (enabled_of_encode (hph ▸ rfl))
  have eadapt : exec .adapt s.plantBlock = .next s.plantBlock.adaptBlock := exec_of_legal hplant (adapt_enabled rfl)
  have emse : exec .mse s.plantBlock.adaptBlock = .next s.frameToMse := exec_of_legal hadapt (enabled_of_encode rfl)
  have edist : exec .dist s.frameToMse = .next s.frameToMse.distBlock := exec_of_legal hmse (enabled_of_encode rfl)
  exact ⟨hplant, hmse, by rw [eplant, andThen_next, eadapt, andThen_next, emse, andThen_next, edist]⟩

/-- Settles O33: the plant's output over its line is what the filter puts out over the same line, so that every error is 0. -/
theorem convergedFilterStaysConverged : Obligations.ConvergedFilterStaysConverged := by
  unfold Obligations.ConvergedFilterStaysConverged
  intro s hs hph hw hline
  obtain ⟨hplant, hmse, hrun⟩ := exec_plant_to_dist hs hph
  obtain ⟨-, hxb, -⟩ := adapt_lengths hs
  have href : s.plantBlock.db = (List.range s.cfg.block).map fun n => dot s.w (lineAfter s.xb s.dla (n + 1)) := by
    rw [State.plantBlock_db, plantRun_out, State.h, hw, hline, hxb]
  have herrors : ∀ e ∈ s.plantBlock.adaptBlock.eb, e = 0 := adaptBlock_eb_of_reference hplant href
  have htaps : s.frameToMse.w = s.cfg.hCoef := (adaptBlock_w_of_reference hplant href).trans hw
  have hdist : s.frameToMse.distBlock.dist = 0 := distBlock_dist_of_eq hmse htaps
  refine ⟨s.frameToMse.distBlock, hrun, htaps, adaptBlock_yb_of_reference hplant href, herrors,
    mseBlock_et_of_zeros herrors, hdist, ?_, ?_, rfl⟩
  · have hconv : s.frameToMse.distBlock.conv = convFlag s.cfg s.frameToMse.distBlock.dist := rfl
    rw [hconv, hdist]
    exact decide_eq_true_iff
  · calc s.plantBlock.adaptBlock.dla
      _ = lineAfter s.xb s.dla s.xb.length := adaptBlock_dla_eq_lineAfter hplant
      _ = lineAfter s.xb s.dlp s.xb.length := by rw [hline]
      _ = s.plantBlock.dlp := (plantRun_dlp _ _ _ _).symm

end Sys2Proof.Machine
end

section
/-! PROOFS. 43_signal_source.md: the generator's step `PRNS` is a bijection (R156), the block that `GEN` draws from it (R157,
R158), and the bound on its samples (R159). -/

namespace Sys2Proof.Machine

open Sys2Proof.Claims

/-! ### `PRNS` -/

/-- Exclusive-or with a map that respects exclusive-or and fixes 0 alone loses nothing: of two words with one result the
difference is fixed. -/
theorem injective_xor_map {n : Nat} {f : BitVec n → BitVec n} (hxor : ∀ x y, f (x ^^^ y) = f x ^^^ f y)
    (hfix : ∀ {x}, x = f x → x = 0#n) : Function.Injective fun x => x ^^^ f x := by
  intro x y h
  have hdiff : (x ^^^ y) ^^^ f (x ^^^ y) = 0#n := by
    calc (x ^^^ y) ^^^ f (x ^^^ y)
      _ = (x ^^^ f x) ^^^ (y ^^^ f y) := by rw [hxor]; ac_rfl
      _ = 0#n := BitVec.xor_eq_zero_iff.2 h
  exact BitVec.xor_eq_zero_iff.1 (hfix (BitVec.xor_eq_zero_iff.1 hdiff))

theorem injective_xor_shiftLeft {n k : Nat} (hk : 0 < k) : Function.Injective fun x : BitVec n => x ^^^ x <<< k :=
  injective_xor_map (fun x y => BitVec.shiftLeft_xor_distrib x y k) (eq_zero_of_eq_shiftLeft hk)

theorem injective_xor_ushiftRight {n k : Nat} (hk : 0 < k) : Function.Injective fun x : BitVec n => x ^^^ x >>> k :=
  injective_xor_map (fun x y => BitVec.ushiftRight_xor_distrib x y k) (eq_zero_of_eq_ushiftRight hk)

theorem prns_injective : Function.Injective prns :=
  (injective_xor_shiftLeft (by decide : 0 < 5)).comp
    ((injective_xor_ushiftRight (by decide : 0 < 17)).comp (injective_xor_shiftLeft (by decide : 0 < 13)))

theorem prns_eq_zero_iff {g : GenWord} : prns g = 0 ↔ g = 0 :=
  ⟨not_imp_not.1 prns_ne_zero, by rintro rfl; rfl⟩

/-- The pseudocode of R156 on numbers. -/
theorem prns_toNat (g : GenWord) : (prns g).toNat =
    let a := g.toNat ^^^ (g.toNat <<< 13 % 2 ^ 32)
    let b := a ^^^ (a >>> 17)
    b ^^^ (b <<< 5 % 2 ^ 32) := by
  simp only [prns, BitVec.toNat_xor, BitVec.toNat_shiftLeft, BitVec.toNat_ushiftRight]

/-- Settles O26: none of the three shifts loses a word, and the words are finitely many. -/
theorem generatorStepIsBijective : Obligations.GeneratorStepIsBijective := by
  unfold Obligations.GeneratorStepIsBijective
  exact ⟨prns_toNat, Finite.injective_iff_bijective.1 prns_injective, fun _ => prns_eq_zero_iff, by decide⟩

/-! ### `GEN` -/

theorem drawSample_eq (g : GenWord) (p : Sample) :
    drawSample g p = ofRaw (clip (scale ((g.extractLsb' 16 16).toInt * p.toInt))) :=
  congrArg ofRaw (sat16_eq_clip _)

/-- `GEN`'s effect without the recursion over the block (R158). -/
theorem genBlock_eq (s : State) : s.genBlock = { s with
    prng := prns^[s.cfg.block] s.prng
    xb := (List.range s.cfg.block).map fun n =>
      ofRaw (clip (scale (((prns^[n + 1] s.prng).extractLsb' 16 16).toInt * s.powerRun.toInt)))
    ph := phPlant } := by
  simp only [State.genBlock, genRun_prng, genRun_out, drawSample_eq]

theorem exec_gen {s : State} (hs : legal s) (hph : s.ph = phGen) : exec .gen s = .next s.genBlock :=
  exec_of_legal hs (enabled_of_encode (hph ▸ rfl))

/-- Settles O27: each sample comes from the generator word after its own step. -/
theorem genFillsBlock : Obligations.GenFillsBlock := by
  unfold Obligations.GenFillsBlock
  exact ⟨rfl, fun s hs hph => (exec_gen hs hph).trans (congrArg Host.Outcome.next (genBlock_eq s)), by decide⟩

/-! ### The bound on the input -/

/-- The scale factor bounds every draw: the raw draw is at most 1 as a fraction. -/
theorem abs_drawSample_le (g : GenWord) (p : Sample) : |(drawSample g p).toInt| ≤ |p.toInt| := by
  rw [drawSample, qmul_comm]
  exact abs_qmul_le_left p (rawDraw g)

theorem abs_genRun_out_le {p : Sample} {n : Nat} {g : GenWord} {x : Sample} (hx : x ∈ (genRun p n g).out) :
    |x.toInt| ≤ |p.toInt| := by
  rw [genRun_out] at hx
  obtain ⟨k, -, rfl⟩ := List.mem_map.1 hx
  exact abs_drawSample_le _ p

/-- Settles O28: a latched power in its range (R25) is its own magnitude. -/
theorem inputBoundedByPower : Obligations.InputBoundedByPower := by
  unfold Obligations.InputBoundedByPower
  intro s hs hph hpower
  have habs : |s.powerRun.toInt| = s.powerRun.toNat := by
    rw [BitVec.toInt_eq_toNat_of_lt (by omega), Nat.abs_cast]
  exact ⟨s.genBlock, exec_gen hs hph, fun x hx => habs ▸ abs_genRun_out_le hx⟩

end Sys2Proof.Machine
end

section
/-! PROOFS. 44_convergence.md: `MSE` as the clamped mean of the squared errors (R166), and `DIST` as the smallest tap distance
(R170, R171). -/

namespace Sys2Proof.Machine

open Sys2Proof.Claims

/-! ### `MSE` -/

/-- A sum of terms that are not negative is not clamped below 0. -/
theorem accSum_nonneg {n : Nat} {f : Nat → Int} (h : ∀ i < n, 0 ≤ f i) : 0 ≤ accSum n f := by
  induction n with
  | zero => exact le_rfl
  | succ n ih =>
    have hprev : 0 ≤ accSum n f := ih fun i hi => h i (Nat.lt_succ_of_lt hi)
    have hterm : 0 ≤ f n := h n n.lt_succ_self
    rw [accSum]
    omega

theorem abs_raw_sq_le (c : List Sample) (i : Nat) : |raw c i ^ 2| ≤ 2 ^ 30 := by
  rw [pow_two]
  exact abs_product_le _ _

/-- `ACC` after the `MACC`s of `MSE`: the dot product of the store with itself. -/
theorem maccAll_self_toInt (c : List Sample) : (maccAll 0 c c).toInt = accSum c.length fun n => raw c n ^ 2 := by
  simp only [pow_two]
  exact maccAll_toInt_eq_accSum le_rfl

/-- Settles O35: squares are not negative, so that `AMEAN` divides and clamps their sum. -/
theorem mseStoresClampedMean : Obligations.MseStoresClampedMean := by
  unfold Obligations.MseStoresClampedMean
  refine ⟨rfl, fun s hs hph => ⟨s.mseBlock.acc, amean s.tick s.cfg.block s.mseBlock.acc, ?_⟩⟩
  obtain ⟨hcfg, ⟨-, -, -, -, -, -, heb, -⟩, -⟩ := id hs
  have hacc : s.mseBlock.acc.toInt = accSum s.cfg.block fun n => raw s.eb n ^ 2 := by
    rw [State.mseBlock_acc, maccAll_self_toInt, heb]
  have hnonneg : 0 ≤ s.mseBlock.acc.toInt := hacc ▸ accSum_nonneg fun n _ => sq_nonneg (raw s.eb n)
  obtain ⟨-, hblock, -⟩ := configLegal_sizes hcfg
  obtain ⟨-, hmean, -⟩ := ameanDividesAndClamps
  exact ⟨hacc, fun hlt => hacc.trans (accSum_eq_sum hlt fun n _ => abs_raw_sq_le s.eb n),
    hmean _ _ _ hblock hnonneg, exec_of_legal hs (enabled_of_encode (hph ▸ rfl))⟩

/-! ### `DIST` -/

/-- The distance of one tap: the clamp of `SSUB` acts on differences that `SABS` takes to 32767 anyway. -/
theorem sabs_ssub_toNat (a b : Sample) : ((sabs (ssub a b)).toNat : Int) = min 32767 |a.toInt - b.toInt| := by
  have hsmall : 2 * (sabs (ssub a b)).toNat < 2 ^ 16 := by
    have := sabs_toNat_le (ssub a b)
    omega
  rw [← BitVec.toInt_eq_toNat_of_lt hsmall, sabs_toInt_eq_min, ssub_toInt, sat16_eq_clip, clip, abs_eq_max_neg,
    abs_eq_max_neg]
  omega

/-- The minimum by its lower bounds: what lies below the distance is what lies below its start and below every tap's
difference. -/
theorem le_tapDistance_iff (k : Nat) {h w : List Sample} (hlen : w.length = h.length) {m : Sample} (hm : m.toNat ≤ 32767)
    {v : Nat} (hv : v ≤ 32767) :
    v ≤ (tapDistance k h w m).toNat ↔ v ≤ m.toNat ∧ ∀ i < h.length, (v : Int) ≤ |raw h i - raw w i| := by
  induction h generalizing w m with
  | nil => simp [tapDistance]
  | cons x h ih =>
    obtain ⟨y, w, rfl⟩ := List.exists_cons_of_length_eq_add_one hlen
    have htap : v ≤ (sabs (ssub x y)).toNat ↔ (v : Int) ≤ |x.toInt - y.toInt| := by
      rw [← Nat.cast_le (α := Int), sabs_ssub_toNat]
      omega
    rw [tapDistance, ih (Nat.succ.inj hlen) (umin_toNat_le k hm (sabs_toNat_le _)), umin_toNat k hm (sabs_toNat_le _),
      le_min_iff, and_assoc, htap, List.length_cons, Nat.forall_lt_succ_left]
    rfl

/-- Settles O36: the distance is among its own lower bounds, and the next number, below 32767, is not. -/
theorem distIsSmallestTapDistance : Obligations.DistIsSmallestTapDistance := by
  unfold Obligations.DistIsSmallestTapDistance
  refine ⟨rfl, fun s hs hph => ⟨s.distBlock.dist, exec_of_legal hs (enabled_of_encode (hph ▸ rfl)), ?_⟩⟩
  obtain ⟨⟨-, -, ⟨hh, -⟩, -⟩, ⟨hw, -⟩, -⟩ := id hs
  have hle : s.distBlock.dist.toNat ≤ 32767 := tapDistance_toNat_le s.tick s.h s.w (by decide)
  have hglb {v : Nat} (hv : v ≤ 32767) : v ≤ s.distBlock.dist.toNat ↔
      v ≤ 32767 ∧ ∀ i < s.cfg.taps, (v : Int) ≤ |raw s.cfg.hCoef i - raw s.w i| :=
    hh ▸ le_tapDistance_iff s.tick (hw.trans hh.symm) (by decide) hv
  obtain ⟨-, hlower⟩ := (hglb hle).1 le_rfl
  refine ⟨hle, hlower, or_iff_not_imp_left.2 fun hne => ?_⟩
  have hsucc : s.distBlock.dist.toNat + 1 ≤ 32767 := by omega
  have hnot : ¬ ∀ i < s.cfg.taps, ((s.distBlock.dist.toNat + 1 : Nat) : Int) ≤ |raw s.cfg.hCoef i - raw s.w i| :=
    fun hall => Nat.not_succ_le_self _ ((hglb hsucc).2 ⟨hsucc, hall⟩)
  push Not at hnot
  obtain ⟨i, hi, hlt⟩ := hnot
  exact ⟨i, hi, le_antisymm (hlower i hi) (Int.le_of_lt_add_one hlt)⟩

end Sys2Proof.Machine
end

section
/-! PROOFS. 45_param_ctrl.md: the staircase `STAIR` (R180, R181), the events as steps up it (R183 to R186), and what other
steps do to the parameters and their latches: none but a reset lowers a parameter (R181, R266), and none but `START` loads a
latch (R187). -/

namespace Sys2Proof.Machine

open Sys2Proof.Claims

/-! ### The staircase -/

/-- Settles O20: the two branches of the closed form, and the rule's table. -/
theorem staircaseRule : Obligations.StaircaseRule := by
  unfold Obligations.StaircaseRule
  refine ⟨fun v hv => ?_, fun v hv _ => ?_, by decide⟩
  · rw [stair_eq, if_pos hv]
  · rw [stair_eq, if_neg (by omega)]

/-- The fixed points of the staircase are its two ends (R181 (b)). -/
theorem stair_eq_self_iff {v : Nat} (h : v ≤ 28000) : stair v = v ↔ v = 0 ∨ v = 28000 := by
  rw [stair_eq]
  split_ifs <;> omega

theorem stairReg_eq_self {v : Sample} (h : v = 28000 ∨ v = 0) : stairReg v = v := by
  rcases h with rfl | rfl <;> rfl

/-- `STAIR` is not monotone (9999 goes to 28000, but 10000 to 13000); it keeps the order above a value `u` whose step does
not jump past 10000. -/
theorem stair_le_stair {u v : Nat} (hu : u ≤ 1000 ∨ 10000 ≤ u) (h : u ≤ v) : stair u ≤ stair v := by
  rw [stair_eq, stair_eq]
  split_ifs <;> omega

/-- The chain that starts at 1 is the slowest: up to its end every other one is at least as far up (R181 (c)). -/
theorem iterate_stair_one_le {v k : Nat} (hv : 1 ≤ v) (hk : k ≤ 10) : stair^[k] 1 ≤ stair^[k] v := by
  have hchain : ∀ j < 10, stair^[j] 1 ≤ 1000 ∨ 10000 ≤ stair^[j] 1 := by decide
  induction k with
  | zero => exact hv
  | succ k ih =>
    rw [Function.iterate_succ_apply', Function.iterate_succ_apply']
    exact stair_le_stair (hchain k hk) (ih (Nat.le_of_succ_le hk))

theorem iterate_stair_ten {v : Nat} (hv : 1 ≤ v) : stair^[10] v = 28000 := by
  have hle : stair^[10] v ≤ 28000 := by
    rw [Function.iterate_succ_apply']
    exact stair_le _
  have hge : 28000 ≤ stair^[10] v :=
    calc 28000
      _ = stair^[10] 1 := by decide
      _ ≤ stair^[10] v := iterate_stair_one_le hv le_rfl
  exact le_antisymm hle hge

/-- Settles O21: the bounds and the fixed points from the closed form, the ten steps by comparison with the chain from 1. -/
theorem staircaseRisesToCeiling : Obligations.StaircaseRisesToCeiling := by
  unfold Obligations.StaircaseRisesToCeiling
  exact ⟨fun v hv => ⟨le_stair hv, stair_le v, stair_eq_self_iff hv⟩, fun _ hv _ => iterate_stair_ten hv, by decide⟩

/-! ### The events -/

/-- Settles O16. -/
theorem evnoneChangesNothing : Obligations.EvnoneChangesNothing := by
  unfold Obligations.EvnoneChangesNothing
  exact ⟨rfl, fun _ hl => exec_of_legal hl nofun⟩

/-- Settles O17: the effect of `EVMU` names `MU` and `RESTART` only, and both ends of the staircase are fixed points. -/
theorem evmuStepsMuAndRaisesRestart : Obligations.EvmuStepsMuAndRaisesRestart := by
  unfold Obligations.EvmuStepsMuAndRaisesRestart
  refine ⟨rfl, fun s hl => exec_of_legal hl nofun, fun s t _ h hend => ?_, by decide⟩
  obtain ⟨-, -, rfl⟩ := exec_eq_next_iff.1 h
  exact ⟨stairReg_eq_self hend, rfl⟩

/-- Settles O18: as for `EVMU`, with `POWER` for `MU`. -/
theorem evpowStepsPowerAndRaisesRestart : Obligations.EvpowStepsPowerAndRaisesRestart := by
  unfold Obligations.EvpowStepsPowerAndRaisesRestart
  refine ⟨rfl, fun s hl => exec_of_legal hl nofun, fun s t _ h hend => ?_, by decide⟩
  obtain ⟨-, -, rfl⟩ := exec_eq_next_iff.1 h
  exact ⟨stairReg_eq_self hend, rfl⟩

/-- Two operations in a row that have no phase of their own are their effects in a row. -/
theorem andThen_exec_of_legal {i j : Instr} {s : State} (hl : legal s) (hi : ∀ p, encode i ≠ .s p)
    (hj : ∀ p, encode j ≠ .s p) : andThen (exec i s) (exec j) = .next (effect j (effect i s)) := by
  have heni : Enabled i s := fun p hp => absurd hp (hi p)
  have henj : Enabled j (effect i s) := fun p hp => absurd hp (hj p)
  rw [exec_of_legal hl heni, andThen_next]
  exact exec_of_legal (legal_effect hl heni) henj

/-- Settles O19: the effects of `EVMU` and `EVPOW` write different parameters and the same flag. -/
theorem evbothIsBothEventsInEitherOrder : Obligations.EvbothIsBothEventsInEitherOrder := by
  unfold Obligations.EvbothIsBothEventsInEitherOrder
  refine ⟨rfl, fun s hl => ?_, by decide, by decide⟩
  have hboth : exec .evboth s = .next (effect .evboth s) := exec_of_legal hl nofun
  rw [hboth]
  exact ⟨rfl, andThen_exec_of_legal hl nofun nofun, andThen_exec_of_legal hl nofun nofun⟩

/-! ### Only a reset lowers a parameter -/

/-- A property that every operation keeps is kept by every step that is no reset. -/
theorem step_keeps_without_reset (P : State → Prop) (hpop : ∀ s, P s → P s.popLine)
    (hready : ∀ s r, P s → P (s.withReady r)) (hops : ∀ s a b, P s → P (s.withOperands a b))
    (hexec : ∀ i s t, P s → exec i s = .next t → P t) {s t : State} (hr : resets (nextLine s) = false) (hs : P s)
    (h : step s = .next t) : P t := by
  have hseq : ∀ r u v, P u → seqStep r u = .next v → P v := by
    intro r u v hu hv
    obtain ⟨i, -, hv⟩ := seqStep_eq_next hv
    exact hexec i _ v (hready u r hu) hv
  have hs : P s.popLine := hpop s hs
  cases hline : nextLine s with
  | rst => rw [hline] at hr; cases hr
  | seq p =>
    rw [step_of_nextLine hline] at h
    exact hseq true _ t hs (runSeqLine_eq_next h)
  | ev code =>
    rw [step_of_nextLine hline] at h
    exact hexec _ _ t hs h
  | prim fn a b =>
    rw [step_of_nextLine hline] at h
    obtain ⟨i, -, h⟩ := runPrimLine_eq_next h
    exact hexec i _ t (hops _ a b hs) h
  | clock inp =>
    have hrst : inp.rst = false := by rwa [hline] at hr
    have h : runClock inp s.popLine = .next t := by rwa [step_of_nextLine hline] at h
    by_cases ha : seqActs inp s.popLine = true
    · rw [runClock_of_acts hrst ha] at h
      obtain ⟨u, hu, h⟩ := andThen_eq_next h
      exact hexec _ u t (hseq _ _ u hs hu) h
    · rw [runClock_of_event hrst ha] at h
      exact hexec _ _ t (hready _ _ hs) h

/-- The parameters have come at least as far up the staircase as `m` and `p`. -/
def ParamsFrom (m p : Nat) (s : State) : Prop := m ≤ s.mu.toNat ∧ p ≤ s.power.toNat

/-- No operation lowers a parameter; `START` reads both and writes neither (R181 (d), R218). -/
theorem paramsFrom_effect {m p : Nat} {s : State} (hl : legal s) (h : ParamsFrom m p s) (i : Instr) :
    ParamsFrom m p (effect i s) := by
  have hother : i ≠ .wait → i ≠ .start → (∀ ev, encode i ≠ .e ev) → ParamsFrom m p (effect i s) := by
    intro hwait hstart hev
    obtain ⟨em, ep, -⟩ := effect_params s hwait hstart hev
    rwa [ParamsFrom, em, ep]
  obtain ⟨hm, hp⟩ := id h
  cases i with
  | wait =>
    simp only [effect]
    split_ifs <;> exact h
  | start | evnone => exact h
  | evmu => exact ⟨hm.trans (le_stepMu hl), hp⟩
  | evpow => exact ⟨hm, hp.trans (le_stepPower hl)⟩
  | evboth => exact ⟨hm.trans (le_stepMu hl), hp.trans (le_stepPower hl)⟩
  | _ => exact hother nofun nofun (fun _ => nofun)

/-- Settles O22: `ParamsFrom` is kept by each part of a step but reset; in a state that is not legal no operation answers a
next state. -/
theorem onlyResetLowersParameters : Obligations.OnlyResetLowersParameters := by
  unfold Obligations.OnlyResetLowersParameters
  intro s t hr h
  refine step_keeps_without_reset (ParamsFrom s.mu.toNat s.power.toNat) ?_ ?_ ?_ ?_ hr ⟨le_rfl, le_rfl⟩ h
  · exact fun _ hu => hu
  · exact fun _ _ hu => hu
  · exact fun _ _ _ hu => hu
  · intro i u v hu hv
    obtain ⟨hl, -, rfl⟩ := exec_eq_next_iff.1 hv
    exact paramsFrom_effect hl hu i

/-! ### Only `START` loads the latches -/

/-- The latches hold `m` and `p`. -/
def LatchesAre (m p : Sample) (s : State) : Prop := s.muRun = m ∧ s.powerRun = p

/-- Settles O55: every operation but `START` leaves the latches, events included. -/
theorem onlyStartLoadsLatches : Obligations.OnlyStartLoadsLatches := by
  unfold Obligations.OnlyStartLoadsLatches
  intro s t hr hst h
  refine step_keeps_without_start (LatchesAre s.muRun s.powerRun) ?_ ?_ ?_ ?_ hr hst ⟨rfl, rfl⟩ h
  · exact fun _ hu => hu
  · exact fun _ _ hu => hu
  · exact fun _ _ _ hu => hu
  · intro i u v hi hu hv
    obtain ⟨-, -, rfl⟩ := exec_eq_next_iff.1 hv
    obtain ⟨hm, hp⟩ := effect_latches hi u
    rwa [LatchesAre, hm, hp]

end Sys2Proof.Machine
end

section
/-! PROOFS. 46_telemetry.md: the two frames as the bytes of their 16-bit values and the receiver's reading of them (R196 to
R200, R205), and the two operations that send them, one byte in a step and a frame in a run (R202 to R204, R208). -/

namespace Sys2Proof.Machine

/-! ### The bytes of 16-bit values -/

@[simp] theorem lowByte_toNat (p : BitVec 16) : (lowByte p).toNat = p.toNat % 256 := by simp [lowByte]

@[simp] theorem highByte_toNat (p : BitVec 16) : (highByte p).toNat = p.toNat / 256 := by
  have := p.isLt
  simp only [highByte, BitVec.extractLsb'_toNat, Nat.shiftRight_eq_div_pow]
  omega

@[simp] theorem readPair_bytes (p : BitVec 16) : readPair (lowByte p) (highByte p) = p := by
  apply BitVec.eq_of_toNat_eq
  have := p.isLt
  rw [readPair, BitVec.toNat_append, highByte_toNat, lowByte_toNat, ← Nat.shiftLeft_add_eq_or_of_lt (by omega)]
  omega

/-- Dropping the two low bits is dividing by 4, rounded down (R84, R198). -/
@[simp] theorem errEntry_toNat (m : ErrVal) : (errEntry m).toNat = m.toNat / 4 := by
  have := m.isLt
  simp only [errEntry, BitVec.extractLsb'_toNat, Nat.shiftRight_eq_div_pow]
  omega

/-- The byte at offset `k` of the values `ps` sent in order, low byte first (R62). -/
def byteAt (ps : List (BitVec 16)) (k : Nat) : Byte :=
  if k % 2 = 0 then lowByte (ps.getD (k / 2) 0) else highByte (ps.getD (k / 2) 0)

theorem byteAt_even (ps : List (BitVec 16)) (i : Nat) : byteAt ps (2 * i) = lowByte (ps.getD i 0) := by
  simp [byteAt]

theorem byteAt_odd (ps : List (BitVec 16)) (i : Nat) : byteAt ps (2 * i + 1) = highByte (ps.getD i 0) := by
  have hdiv : (2 * i + 1) / 2 = i := by omega
  simp [byteAt, hdiv, Nat.add_mod]

theorem byteAt_cons_add_two (p : BitVec 16) (ps : List (BitVec 16)) (k : Nat) : byteAt (p :: ps) (k + 2) = byteAt ps k := by
  simp [byteAt]

/-- The receiver's reading of the bytes of `ps` is `ps` (R205). -/
theorem readPairs_map_byteAt (ps : List (BitVec 16)) : readPairs ((List.range (2 * ps.length)).map (byteAt ps)) = ps := by
  induction ps with
  | nil => rfl
  | cons p ps ih =>
    have hbytes : (List.range (2 * (p :: ps).length)).map (byteAt (p :: ps)) =
        lowByte p :: highByte p :: (List.range (2 * ps.length)).map (byteAt ps) := by
      rw [List.length_cons, Nat.mul_succ, List.range_succ_eq_map, List.range_succ_eq_map]
      simp only [List.map_cons, List.map_map, Function.comp_def, byteAt_cons_add_two]
      rfl
    rw [hbytes, readPairs, readPair_bytes, ih]

/-! ### The two frames -/

theorem coefByte_eq_byteAt {s : State} (h : s.w.length = s.cfg.taps) (k : Nat) :
    s.coefByte k = byteAt (s.w ++ s.cfg.hCoef) k := by
  rw [State.coefByte, byteAt]
  by_cases hk : k < 2 * s.cfg.taps
  · rw [if_pos hk, List.getD_append _ _ _ _ (by omega)]
  · have hdiv : (k - 2 * s.cfg.taps) / 2 = k / 2 - s.w.length := by omega
    rw [if_neg hk, List.getD_append_right _ _ _ _ (by omega), hdiv]
    rfl

theorem errByte_eq_byteAt (s : State) (k : Nat) : s.errByte k = byteAt (s.et.map errEntry) k := by
  have hentry : (s.et.map errEntry).getD (k / 2) 0 = errEntry (s.et.getD (k / 2) 0) :=
    List.getD_map (f := errEntry) (d := 0) ..
  rw [State.errByte, byteAt, hentry]

theorem coefFrame_length (s : State) : s.coefFrame.length = 4 * s.cfg.taps := by
  simp [State.coefFrame, Config.coefFrameLen]

theorem errFrame_length (s : State) : s.errFrame.length = 2 * s.cfg.numFrames := by
  simp [State.errFrame, Config.errFrameLen]

theorem readPairs_coefFrame {s : State} (hs : legal s) : readPairs s.coefFrame = s.w ++ s.cfg.hCoef := by
  obtain ⟨⟨-, -, ⟨hh, -⟩, -⟩, ⟨hw, -⟩, -⟩ := hs
  have hlen : s.cfg.coefFrameLen = 2 * (s.w ++ s.cfg.hCoef).length := by
    rw [List.length_append, hw, hh, Config.coefFrameLen]
    omega
  rw [State.coefFrame, funext (coefByte_eq_byteAt hw), hlen, readPairs_map_byteAt]

theorem readPairs_errFrame {s : State} (hs : legal s) : readPairs s.errFrame = s.et.map errEntry := by
  obtain ⟨-, ⟨-, -, -, -, -, -, -, het⟩, -⟩ := hs
  have hlen : s.cfg.errFrameLen = 2 * (s.et.map errEntry).length := by rw [List.length_map, het, Config.errFrameLen]
  rw [State.errFrame, funext (errByte_eq_byteAt s), hlen, readPairs_map_byteAt]

/-- Settles O39: the coefficient frame holds the bytes of `W` followed by `H`, tap `i` of `H` being value `N + i`. -/
theorem coefficientBytesAtTheirOffsets : Obligations.CoefficientBytesAtTheirOffsets := by
  unfold Obligations.CoefficientBytesAtTheirOffsets
  intro s hs i hi
  obtain ⟨-, ⟨hw, -⟩, -⟩ := hs
  have hadaptive : (s.w ++ s.cfg.hCoef).getD i 0 = s.w.getD i 0 := List.getD_append _ _ _ _ (by omega)
  have hplant : (s.w ++ s.cfg.hCoef).getD (s.cfg.taps + i) 0 = s.cfg.hCoef.getD i 0 := by
    rw [List.getD_append_right _ _ _ _ (by omega), hw, Nat.add_sub_cancel_left]
  rw [← Nat.mul_add, ← hadaptive, ← hplant]
  simp only [coefByte_eq_byteAt hw, byteAt_even, byteAt_odd, lowByte_toNat, highByte_toNat, and_self]

/-- Settles O40. -/
theorem coefficientFrameRoundTrips : Obligations.CoefficientFrameRoundTrips := by
  unfold Obligations.CoefficientFrameRoundTrips
  exact fun s hs => ⟨coefFrame_length s, readPairs_coefFrame hs⟩

/-- Settles O41: the frame itself is read back bit for bit, and its entries have lost two bits. -/
theorem errorFrameLosesTwoBits : Obligations.ErrorFrameLosesTwoBits := by
  unfold Obligations.ErrorFrameLosesTwoBits
  intro s hs
  refine ⟨errFrame_length s, ?_⟩
  rw [readPairs_errFrame hs, List.map_map]
  exact List.map_congr_left fun m _ => errEntry_toNat m

/-! ### One byte -/

theorem exec_txc {s : State} (hs : legal s) (hph : s.ph = phTxc) :
    exec .txc s = .next (if s.txReady then s.sendCoef else s) :=
  exec_of_legal hs (enabled_of_encode (hph ▸ rfl))

theorem exec_txe {s : State} (hs : legal s) (hph : s.ph = phTxe) :
    exec .txe s = .next (if s.txReady then s.sendErr else s) :=
  exec_of_legal hs (enabled_of_encode (hph ▸ rfl))

/-- Settles O37: the hold, and the two cases of `sendCoef`; before the last byte `TXIDX` does not wrap. -/
theorem txcSendsOneByte : Obligations.TxcSendsOneByte := by
  unfold Obligations.TxcSendsOneByte
  intro s hs hph
  rw [exec_txc hs hph]
  refine ⟨fun hr => ?_, fun hr hmore => ⟨s.txidx + 1, ?_, ?_⟩, fun hr hlast => ?_⟩
  · simp [hr]
  · exact txidx_succ_toNat hs (lt_max_of_lt_left hmore)
  · rw [if_pos hr, State.sendCoef_of_more hmore.ne]
  · rw [if_pos hr, State.sendCoef_of_last hlast]

/-- Settles O38: the hold, and the two cases of `sendErr`; before the last byte `TXIDX` does not wrap. -/
theorem txeSendsOneByte : Obligations.TxeSendsOneByte := by
  unfold Obligations.TxeSendsOneByte
  intro s hs hph
  rw [exec_txe hs hph]
  refine ⟨fun hr => ?_, fun hr hmore => ⟨s.txidx + 1, ?_, ?_⟩, fun hr hlast => ?_⟩
  · simp [hr]
  · exact txidx_succ_toNat hs (lt_max_of_lt_right hmore)
  · rw [if_pos hr, State.sendErr_of_more hmore.ne]
  · rw [if_pos hr, State.sendErr_of_last hlast]

/-! ### A whole frame

Said once for both frames, of the phase `p` that sends one: `TXC` or `TXE`. -/

/-- The number of bytes of the frame that phase `p` sends (R202, R204). -/
def frameLen (c : Config) (p : BitVec 4) : Nat := if p = phTxc then c.coefFrameLen else c.errFrameLen

/-- The phase that follows when the frame of phase `p` has been sent (R202, R204). -/
def phaseAfter (c : Config) (p : BitVec 4) : BitVec 4 :=
  if p = phTxc then (if c.errTraceEn then phTxe else phWait) else phWait

/-- `s` after one line of its schedule has sent the byte `b`, not the last of its frame; `rest` is still to come. -/
def State.afterByte (s : State) (b : Byte) (rest : List Line) : State :=
  { s with
    txs := s.txs ++ [(b, false)], wire := s.wire ++ [b], txidx := s.txidx + 1
    txReady := true, sched := rest, tick := s.tick + 1 }

/-- `s` after one line of its schedule for each of the bytes `bs` has sent them, the end of the frame of phase `p`. -/
def State.afterFrame (s : State) (p : BitVec 4) (bs : List Byte) (rest : List Line) : State :=
  { s with
    txs := s.txs ++ markLast bs, wire := s.wire ++ bs, txidx := 0, ph := phaseAfter s.cfg p
    txReady := true, sched := rest, tick := s.tick + bs.length }

/-- A byte and then the end of a frame are a longer end of that frame. -/
theorem State.afterFrame_afterByte (s : State) (p : BitVec 4) (b c : Byte) (bs : List Byte) (rest' rest : List Line) :
    (s.afterByte b rest').afterFrame p (c :: bs) rest = s.afterFrame p (b :: c :: bs) rest := by
  simp [State.afterByte, State.afterFrame, markLast, Nat.add_assoc, Nat.add_comm 1]

/-- `s` as a `SEQ` line finds it: the line is taken off, and the transport is ready (R106). -/
def State.atSeqLine (s : State) (rest : List Line) : State :=
  { s with sched := rest, tick := s.tick + 1, txReady := true }

/-- A `SEQ` line that names the phase runs its operation. -/
theorem step_of_seqLine {s : State} {i : Instr} {p : BitVec 4} {rest : List Line} (hs : legal s) (hi : encode i = .s p)
    (hph : s.ph = p) (hwait : p = phWait → s.restart = true) (hsched : s.sched = .seq p :: rest) :
    step s = .next (effect i (s.atSeqLine rest)) := by
  subst hph
  obtain ⟨hseq, -⟩ := stepRunsDecodedOperation s rest i
  rw [hseq hsched (hi ▸ decode_encode i) hwait]
  exact exec_of_legal (s := s.atSeqLine rest) hs (enabled_of_encode hi)

section
variable {s : State} {p : BitVec 4} {rest : List Line}

theorem step_sends_byte (htx : p = phTxc ∨ p = phTxe) (hs : legal s) (hph : s.ph = p) (hsched : s.sched = .seq p :: rest)
    (hmore : s.txidx.toNat + 1 < frameLen s.cfg p) :
    step s = .next (s.afterByte (s.frameByte p s.txidx.toNat) rest) := by
  rcases htx with rfl | rfl
  · calc step s
      _ = .next (s.atSeqLine rest).sendCoef := step_of_seqLine (i := .txc) hs rfl hph nofun hsched
      _ = _ := congrArg _ (State.sendCoef_of_more (s := s.atSeqLine rest) hmore.ne)
  · calc step s
      _ = .next (s.atSeqLine rest).sendErr := step_of_seqLine (i := .txe) hs rfl hph nofun hsched
      _ = _ := congrArg _ (State.sendErr_of_more (s := s.atSeqLine rest) hmore.ne)

theorem step_sends_last_byte (htx : p = phTxc ∨ p = phTxe) (hs : legal s) (hph : s.ph = p)
    (hsched : s.sched = .seq p :: rest) (hlast : s.txidx.toNat + 1 = frameLen s.cfg p) :
    step s = .next (s.afterFrame p [s.frameByte p s.txidx.toNat] rest) := by
  rcases htx with rfl | rfl
  · calc step s
      _ = .next (s.atSeqLine rest).sendCoef := step_of_seqLine (i := .txc) hs rfl hph nofun hsched
      _ = _ := congrArg _ (State.sendCoef_of_last (s := s.atSeqLine rest) hlast)
  · calc step s
      _ = .next (s.atSeqLine rest).sendErr := step_of_seqLine (i := .txe) hs rfl hph nofun hsched
      _ = _ := congrArg _ (State.sendErr_of_last (s := s.atSeqLine rest) hlast)

theorem frameLen_le_max (htx : p = phTxc ∨ p = phTxe) (c : Config) : frameLen c p ≤ max c.coefFrameLen c.errFrameLen := by
  rcases htx with rfl | rfl
  · exact le_max_left _ _
  · exact le_max_right _ _

theorem frameLen_pos (htx : p = phTxc ∨ p = phTxe) (hs : legal s) : 0 < frameLen s.cfg p := by
  obtain ⟨hcoef, herr⟩ := frameLens_pos hs
  rcases htx with rfl | rfl
  · exact hcoef
  · exact herr

/-- From any place `TXIDX` in a frame, one line for each byte that is left sends the rest of the frame. -/
theorem run_rest_of_frame (htx : p = phTxc ∨ p = phTxe) {m : Nat} (hs : legal s) (hph : s.ph = p)
    (hlen : s.txidx.toNat + (m + 1) = frameLen s.cfg p) (hsched : s.sched = rep (m + 1) [.seq p] ++ rest) :
    Host.Core.run core (m + 1) s =
      .next (s.afterFrame p ((List.range' s.txidx.toNat (m + 1)).map (s.frameByte p)) rest) := by
  induction m generalizing s with
  | zero => exact run_succ (step_sends_last_byte htx hs hph hsched hlen) 0
  | succ m ih =>
    have hmore : s.txidx.toNat + 1 < frameLen s.cfg p := by omega
    have hstep := step_sends_byte htx hs hph hsched hmore
    have hidx := txidx_succ_toNat hs (hmore.trans_le (frameLen_le_max htx s.cfg))
    have hlen' : (s.txidx + 1).toNat + (m + 1) = frameLen s.cfg p := by omega
    calc Host.Core.run core (m + 2) s
      _ = Host.Core.run core (m + 1) (s.afterByte (s.frameByte p s.txidx.toNat) (rep (m + 1) [.seq p] ++ rest)) :=
        run_succ hstep (m + 1)
      _ = .next ((s.afterByte _ _).afterFrame p ((List.range' (s.txidx + 1).toNat (m + 1)).map (s.frameByte p)) rest) :=
        ih (step_keeps_legal hs hstep) hph hlen' rfl
      _ = _ := by
        rw [hidx]
        exact congrArg _ (State.afterFrame_afterByte ..)

/-- From its start, one line for each byte sends the whole frame. -/
theorem run_frame (htx : p = phTxc ∨ p = phTxe) (hs : legal s) (hph : s.ph = p) (hidx : s.txidx = 0)
    (hsched : s.sched = rep (frameLen s.cfg p) [.seq p] ++ rest) :
    Host.Core.run core (frameLen s.cfg p) s =
      .next (s.afterFrame p ((List.range (frameLen s.cfg p)).map (s.frameByte p)) rest) := by
  obtain ⟨m, hm⟩ : ∃ m, frameLen s.cfg p = m + 1 := Nat.exists_eq_add_one.2 (frameLen_pos htx hs)
  have hzero : s.txidx.toNat = 0 := by rw [hidx]; rfl
  have hrun := run_rest_of_frame htx hs hph (by omega) (hm ▸ hsched)
  rwa [hzero, ← List.range_eq_range', ← hm] at hrun

end

theorem run_coefFrame {s : State} {rest : List Line} (hs : legal s) (hph : s.ph = phTxc) (hidx : s.txidx = 0)
    (hsched : s.sched = rep s.cfg.coefFrameLen [.seq phTxc] ++ rest) :
    Host.Core.run core s.cfg.coefFrameLen s = .next (s.afterFrame phTxc s.coefFrame rest) :=
  run_frame (.inl rfl) hs hph hidx hsched

theorem run_errFrame {s : State} {rest : List Line} (hs : legal s) (hph : s.ph = phTxe) (hidx : s.txidx = 0)
    (hsched : s.sched = rep s.cfg.errFrameLen [.seq phTxe] ++ rest) :
    Host.Core.run core s.cfg.errFrameLen s = .next (s.afterFrame phTxe s.errFrame rest) :=
  run_frame (.inr rfl) hs hph hidx hsched

/-- Settles O42: the run of `TXC` lines, by induction on the bytes that are left. -/
theorem coefficientFrameIsSentWhole : Obligations.CoefficientFrameIsSentWhole := by
  unfold Obligations.CoefficientFrameIsSentWhole
  intro s rest hs hph hidx hsched
  have hrun := run_coefFrame hs hph hidx hsched
  rw [State.afterFrame, coefFrame_length] at hrun
  exact hrun

/-- Settles O43: the run of `TXE` lines, by induction on the bytes that are left. -/
theorem errorFrameIsSentWhole : Obligations.ErrorFrameIsSentWhole := by
  unfold Obligations.ErrorFrameIsSentWhole
  intro s rest hs hph hidx hsched
  have hrun := run_errFrame hs hph hidx hsched
  rw [State.afterFrame, errFrame_length] at hrun
  exact hrun

end Sys2Proof.Machine
end

section
/-! PROOFS. 47_sequencer.md: the operations `WAIT`, `START` and `NEXTF` (R217 to R219), the transition table with its counters
(R216), where the sequencer's step is a hold (R227), and a whole run (R226). -/

namespace Sys2Proof.Machine

/-! ### `WAIT`, `START`, `NEXTF` -/

/-- Settles O23: the two branches of `WAIT`'s effect. -/
theorem waitGoesOnOrHolds : Obligations.WaitGoesOnOrHolds := by
  unfold Obligations.WaitGoesOnOrHolds
  intro s hs hph
  have hexec : exec .wait s = .next (if s.restart then s.toPhase phStart else s) :=
    exec_of_legal hs (enabled_of_encode (hph ▸ rfl))
  rw [hexec]
  refine ⟨fun hr => ?_, fun hr => ?_⟩
  · rw [if_pos hr]; rfl
  · rw [hr]; rfl

/-- Settles O24: `beginRun` names exactly these fields. -/
theorem startBeginsRun : Obligations.StartBeginsRun := by
  unfold Obligations.StartBeginsRun
  exact ⟨rfl, fun s hs hph => exec_of_legal hs (enabled_of_encode (hph ▸ rfl))⟩

/-- In `NEXTF` a frame is still to be counted, and counting it does not wrap (R39, R48). -/
theorem frame_succ_of_nextf {s : State} (hs : legal s) (hph : s.ph = phNextf) :
    s.frame.toNat < s.cfg.numFrames ∧ (s.frame + 1).toNat = s.frame.toNat + 1 := by
  have hlt := frame_lt_of_ph hs hph (by decide)
  exact ⟨hlt, frame_succ_toNat hs hlt⟩

/-- Settles O25: the two cases of `countFrame`. -/
theorem nextfCountsFrame : Obligations.NextfCountsFrame := by
  unfold Obligations.NextfCountsFrame
  refine ⟨rfl, fun s hs hph => ?_⟩
  obtain ⟨hlt, hsucc⟩ := frame_succ_of_nextf hs hph
  have hexec : exec .nextf s = .next s.countFrame := exec_of_legal hs (enabled_of_encode (hph ▸ rfl))
  rw [hexec]
  refine ⟨s.frame + 1, hsucc, hlt, fun hlast => ?_, fun hmore => ?_⟩
  · rw [State.countFrame_of_last (hsucc.trans hlast)]
  · rw [State.countFrame_of_more (hsucc.trans_ne hmore.ne)]

/-! ### The transition table -/

/-- Only `START` and `NEXTF` write `FRAME` (R39, R218, R219). -/
theorem effect_frame {i : Instr} (hstart : i ≠ .start) (hnextf : i ≠ .nextf) (s : State) :
    (effect i s).frame = s.frame := by
  cases i with
  | start => exact absurd rfl hstart
  | nextf => exact absurd rfl hnextf
  | wait => simp only [effect]; split_ifs <;> rfl
  | txc => simp only [effect, State.sendCoef]; split_ifs <;> rfl
  | txe => simp only [effect, State.sendErr]; split_ifs <;> rfl
  | _ => rfl

/-- Only `NEXTF`, `TXC` and `TXE` write `TXIDX` (R40, R202, R204, R219). -/
theorem effect_txidx {i : Instr} (hnextf : i ≠ .nextf) (htxc : i ≠ .txc) (htxe : i ≠ .txe) (s : State) :
    (effect i s).txidx = s.txidx := by
  cases i with
  | nextf => exact absurd rfl hnextf
  | txc => exact absurd rfl htxc
  | txe => exact absurd rfl htxe
  | wait => simp only [effect]; split_ifs <;> rfl
  | _ => rfl

/-- `NEXTF`'s row of the table. -/
theorem countFrame_counters {s : State} (hs : legal s) (hph : s.ph = phNextf) :
    s.countFrame.frame.toNat = s.frame.toNat + 1 ∧
    s.countFrame.ph = (if s.frame.toNat + 1 < s.cfg.numFrames then phGen else phTxc) ∧
    s.countFrame.txidx = if s.frame.toNat + 1 < s.cfg.numFrames then s.txidx else 0 := by
  obtain ⟨hlt, hsucc⟩ := frame_succ_of_nextf hs hph
  by_cases hmore : s.frame.toNat + 1 < s.cfg.numFrames
  · rw [State.countFrame_of_more (hsucc.trans_ne hmore.ne), if_pos hmore, if_pos hmore]
    exact ⟨hsucc, rfl, rfl⟩
  · have hlast : s.frame.toNat + 1 = s.cfg.numFrames := by omega
    rw [State.countFrame_of_last (hsucc.trans hlast), if_neg hmore, if_neg hmore]
    exact ⟨hsucc, rfl, rfl⟩

/-- One byte sent, in the phase `p` of either frame: the phase is left and `TXIDX` cleared at the last byte only. -/
theorem effect_sends_byte {i : Instr} {s : State} {p : BitVec 4} (htx : p = phTxc ∨ p = phTxe) (hi : encode i = .s p)
    (hr : s.txReady = true) :
    (effect i s).ph = (if s.txidx.toNat + 1 = frameLen s.cfg p then phaseAfter s.cfg p else s.ph) ∧
    (effect i s).txidx = if s.txidx.toNat + 1 = frameLen s.cfg p then 0 else s.txidx + 1 := by
  by_cases hlast : s.txidx.toNat + 1 = frameLen s.cfg p
  · rw [if_pos hlast, if_pos hlast]
    rcases htx with rfl | rfl
    · obtain rfl : i = .txc := encode_injective hi
      rw [effect, if_pos hr, State.sendCoef_of_last hlast]
      exact ⟨rfl, rfl⟩
    · obtain rfl : i = .txe := encode_injective hi
      rw [effect, if_pos hr, State.sendErr_of_last hlast]
      exact ⟨rfl, rfl⟩
  · rw [if_neg hlast, if_neg hlast]
    rcases htx with rfl | rfl
    · obtain rfl : i = .txc := encode_injective hi
      rw [effect, if_pos hr, State.sendCoef_of_more hlast]
      exact ⟨rfl, rfl⟩
    · obtain rfl : i = .txe := encode_injective hi
      rw [effect, if_pos hr, State.sendErr_of_more hlast]
      exact ⟨rfl, rfl⟩

/-- The transport not being ready, the two operations that send a byte hold (R202, R204). -/
theorem effect_holds_byte {i : Instr} {s : State} {p : BitVec 4} (htx : p = phTxc ∨ p = phTxe) (hi : encode i = .s p)
    (hr : s.txReady = false) : effect i s = s := by
  rcases htx with rfl | rfl
  · obtain rfl : i = .txc := encode_injective hi
    rw [effect, hr]; rfl
  · obtain rfl : i = .txe := encode_injective hi
    rw [effect, hr]; rfl

/-- The rows of `TXC` and `TXE`, said once of the phase `p`. -/
theorem effect_tx_counters {i : Instr} {s : State} {p : BitVec 4} (htx : p = phTxc ∨ p = phTxe) (hi : encode i = .s p)
    (hs : legal s) (hph : s.ph = p) :
    (s.txReady = false → (effect i s).ph = p ∧ (effect i s).txidx = s.txidx) ∧
    (s.txReady = true → s.txidx.toNat < frameLen s.cfg p - 1 →
      (effect i s).ph = p ∧ (effect i s).txidx.toNat = s.txidx.toNat + 1) ∧
    (s.txReady = true → s.txidx.toNat = frameLen s.cfg p - 1 →
      (effect i s).ph = phaseAfter s.cfg p ∧ (effect i s).txidx = 0) := by
  have hpos := frameLen_pos htx hs
  refine ⟨fun hr => ?_, fun hr hlt => ?_, fun hr heq => ?_⟩
  · rw [effect_holds_byte htx hi hr]
    exact ⟨hph, rfl⟩
  · obtain ⟨ep, ek⟩ := effect_sends_byte htx hi hr
    have hmore : s.txidx.toNat + 1 < frameLen s.cfg p := by omega
    rw [ep, ek, if_neg hmore.ne, if_neg hmore.ne]
    exact ⟨hph, txidx_succ_toNat hs (hmore.trans_le (frameLen_le_max htx s.cfg))⟩
  · obtain ⟨ep, ek⟩ := effect_sends_byte htx hi hr
    have hlast : s.txidx.toNat + 1 = frameLen s.cfg p := by omega
    rw [ep, ek, if_pos hlast, if_pos hlast]
    exact ⟨rfl, rfl⟩

/-- Settles O54: each row speaks of the one operation whose code the phase is. -/
theorem transitionTable : Obligations.TransitionTable := by
  unfold Obligations.TransitionTable
  intro s ready hs
  obtain ⟨-, -, hphase, -⟩ := id hs
  obtain ⟨i, hi⟩ := exists_encode_of_phaseLegal hphase
  have hop {j : Instr} {p : BitVec 4} (hj : encode j = .s p) (hph : s.ph = p) : i = j :=
    encode_injective (hi.trans ((congrArg Code.s hph).trans hj.symm))
  have hcode {j : Instr} {p : BitVec 4} (hj : encode j = .s p) (hph : s.ph ≠ p) : i ≠ j := by
    rintro rfl
    exact hph (Code.s.inj (hi.symm.trans hj))
  refine ⟨effect i (s.withReady ready), seqStep_of_legal hs hi ready, fun hph => ?_, fun hph => ?_, fun hph => ?_,
    fun hph => ?_, fun hph => ?_, fun hph => ?_, fun hph => ?_, fun hph => ?_, fun hph => ?_, fun hph => ?_,
    fun hstart hnextf => ?_, fun hnextf htxc htxe => ?_⟩
  · obtain rfl := hop (j := .wait) rfl hph
    rw [effect, apply_ite State.ph]
    exact congrArg _ hph
  · obtain rfl := hop (j := .start) rfl hph
    exact ⟨rfl, rfl⟩
  · obtain rfl := hop (j := .gen) rfl hph
    rfl
  · obtain rfl := hop (j := .plant) rfl hph
    rfl
  · obtain rfl := hop (j := .adapt) rfl hph
    rfl
  · obtain rfl := hop (j := .mse) rfl hph
    rfl
  · obtain rfl := hop (j := .dist) rfl hph
    rfl
  · obtain rfl := hop (j := .nextf) rfl hph
    exact countFrame_counters (s := s.withReady ready) hs hph
  · exact effect_tx_counters (s := s.withReady ready) (.inl rfl) (hi.trans (congrArg _ hph)) hs hph
  · exact effect_tx_counters (s := s.withReady ready) (.inr rfl) (hi.trans (congrArg _ hph)) hs hph
  · exact effect_frame (hcode rfl hstart) (hcode rfl hnextf) (s.withReady ready)
  · exact effect_txidx (hcode rfl hnextf) (hcode rfl htxc) (hcode rfl htxe) (s.withReady ready)

/-! ### Where the sequencer holds -/

/-- The frame of a phase that sends bytes is followed by another phase (R216). -/
theorem phaseAfter_ne {p : BitVec 4} (htx : p = phTxc ∨ p = phTxe) (c : Config) : phaseAfter c p ≠ p := by
  rcases htx with rfl | rfl
  · have hnext : ∀ b : Bool, (if b then phTxe else phWait) ≠ phTxc := by decide
    exact hnext c.errTraceEn
  · exact (by decide : phWait ≠ phTxe)

/-- A byte that is sent moves `TXIDX`, or ends the frame and with it the phase. -/
theorem effect_eq_self_iff_of_byte {i : Instr} {s : State} (htx : s.ph = phTxc ∨ s.ph = phTxe) (hi : encode i = .s s.ph) :
    effect i s = s ↔ s.txReady = false := by
  refine ⟨fun h => ?_, effect_holds_byte htx hi⟩
  by_contra hr
  obtain ⟨ep, ek⟩ := effect_sends_byte htx hi (eq_true_of_ne_false hr)
  rw [h] at ep ek
  split_ifs at ep ek
  · exact phaseAfter_ne htx s.cfg ep.symm
  · exact absurd (left_eq_add.1 ek) (by decide)

/-- Every operation of the sequencer but `WAIT`, `TXC` and `TXE` leaves its phase (R216). -/
theorem effect_leaves_phase {i : Instr} {s : State} (hi : encode i = .s s.ph) (hwait : i ≠ .wait) (htxc : i ≠ .txc)
    (htxe : i ≠ .txe) : (effect i s).ph ≠ s.ph := by
  cases i with
  | wait => exact absurd rfl hwait
  | txc => exact absurd rfl htxc
  | txe => exact absurd rfl htxe
  | start | gen | plant | adapt | mse | dist =>
    rw [← Code.s.inj hi]
    simp +decide [effect]
  | nextf =>
    rw [← Code.s.inj hi, effect, State.countFrame]
    split_ifs <;> simp +decide
  | _ => cases hi

/-- `WAIT` holds while `RESTART` is 0, and leaves its phase when it is 1 (R217). -/
theorem effect_wait_eq_self_iff {s : State} (hph : s.ph = phWait) : effect .wait s = s ↔ s.restart = false := by
  cases hr : s.restart with
  | false => simp [effect, hr]
  | true =>
    have hne : s.toPhase phStart ≠ s := fun h => 
      absurd (show phStart = phWait from (congrArg State.ph h).trans hph) (by decide)
    simp [effect, hr, hne]

/-- The operation that `PH` names changes nothing exactly in the final state and in a stall (R227). -/
theorem effect_eq_self_iff {i : Instr} {s : State} (hi : encode i = .s s.ph) :
    effect i s = s ↔ s.Quiescent ∨ s.Stalled := by
  have hstalled : s.Stalled ↔ (s.ph = phTxc ∨ s.ph = phTxe) ∧ s.txReady = false := and_congr_left' (txValid_iff s)
  by_cases htx : s.ph = phTxc ∨ s.ph = phTxe
  · have hq : ¬ s.Quiescent := by
      rintro ⟨hw, -⟩
      rw [hw] at htx
      exact absurd htx (by decide)
    rw [or_iff_right hq, hstalled, and_iff_right htx]
    exact effect_eq_self_iff_of_byte htx hi
  · have hst : ¬ s.Stalled := fun h => htx (hstalled.1 h).1
    rw [or_iff_left hst]
    by_cases hw : s.ph = phWait
    · obtain rfl : i = .wait := encode_injective (hi.trans (congrArg Code.s hw))
      rw [State.Quiescent, and_iff_right hw]
      exact effect_wait_eq_self_iff hw
    · refine iff_of_false (fun h => effect_leaves_phase hi ?_ ?_ ?_ (congrArg State.ph h)) fun h => hw h.1
      · rintro rfl; exact hw (Code.s.inj hi).symm
      · rintro rfl; exact htx (.inl (Code.s.inj hi).symm)
      · rintro rfl; exact htx (.inr (Code.s.inj hi).symm)

/-- Settles O59: the operation that `PH` names runs, the port showing `ready`, and it is its effect. -/
theorem holdsExactlyWhenWaitingOrStalled : Obligations.HoldsExactlyWhenWaitingOrStalled := by
  unfold Obligations.HoldsExactlyWhenWaitingOrStalled
  intro s ready hs
  obtain ⟨-, -, hphase, -⟩ := id hs
  obtain ⟨i, hi⟩ := exists_encode_of_phaseLegal hphase
  rw [seqStep_of_legal hs hi, Host.Outcome.next.injEq]
  exact effect_eq_self_iff (s := s.withReady ready) hi

/-! ### The lines of a run -/

@[simp] theorem rep_length (k : Nat) (ls : List Line) : (rep k ls).length = k * ls.length := by
  induction k with
  | zero => simp [rep]
  | succ k ih => rw [rep, List.length_append, ih, Nat.succ_mul, Nat.add_comm]

theorem txCoef_length (c : Config) : (txCoef c).length = c.coefFrameLen := by simp [txCoef]

theorem txErr_length (c : Config) : (txErr c).length = if c.errTraceEn then c.errFrameLen else 0 := by
  rw [txErr, apply_ite List.length]
  simp

theorem runOps_length (c : Config) :
    (runOps c).length = 2 + (6 * c.numFrames + ((txCoef c).length + (txErr c).length)) := by
  simp only [runOps, frameOps, List.length_append, List.length_cons, List.length_nil, rep_length]
  omega

/-- A line of the schedule runs its operation, and the state stays legal. -/
theorem step_seqLine {s : State} {i : Instr} {p : BitVec 4} {rest : List Line} (hs : legal s) (hi : encode i = .s p)
    (hph : s.ph = p) (hwait : p = phWait → s.restart = true) (hsched : s.sched = .seq p :: rest) :
    step s = .next (effect i (s.atSeqLine rest)) ∧ legal (effect i (s.atSeqLine rest)) := by
  have hstep := step_of_seqLine hs hi hph hwait hsched
  exact ⟨hstep, step_keeps_legal hs hstep⟩

theorem run_keeps_legal {s t : State} {k : Nat} (hs : legal s) (h : Host.Core.run core k s = .next t) : legal t := by
  induction k generalizing s with
  | zero => cases h; exact hs
  | succ k ih =>
    cases hstep : step s with
    | next u => exact ih (step_keeps_legal hs hstep) ((run_succ hstep k).symm.trans h)
    | fault r => simp [Host.Core.run, core, hstep] at h
    | refused r => simp [Host.Core.run, core, hstep] at h

/-- The registers that the operations of a frame, `GEN` to `NEXTF`, do not write. -/
structure Kept where
  mu : Sample
  power : Sample
  restart : Bool
  muRun : Sample
  powerRun : Sample
  txs : List (Byte × Bool)
  cfg : Config

def State.kept (s : State) : Kept := ⟨s.mu, s.power, s.restart, s.muRun, s.powerRun, s.txs, s.cfg⟩

/-- `NEXTF` leaves them, and the generator and the schedule too (R219). -/
theorem State.countFrame_keeps (s : State) :
    s.countFrame.kept = s.kept ∧ s.countFrame.prng = s.prng ∧ s.countFrame.sched = s.sched := by
  rw [State.countFrame]
  split_ifs <;> exact ⟨rfl, rfl, rfl⟩

/-! ### `WAIT` and `START` -/

/-- The first two lines of a run: they latch the parameters and clear `RESTART` (R217, R218). -/
theorem run_waitStart {s : State} {rest : List Line} (hs : legal s) (hph : s.ph = phWait) (hr : s.restart = true)
    (hsched : s.sched = .seq phWait :: .seq phStart :: rest) :
    ∃ t : State, Host.Core.run core 2 s = .next t ∧ legal t ∧ t.ph = phGen ∧ t.sched = rest ∧ t.frame.toNat = 0 ∧
      t.prng = s.prng ∧ t.kept = { s.kept with muRun := s.mu, powerRun := s.power, restart := false } := by
  have hwait : step s = .next ((s.atSeqLine (.seq phStart :: rest)).toPhase phStart) :=
    (step_of_seqLine (i := .wait) hs rfl hph (fun _ => hr) hsched).trans (congrArg _ (if_pos hr))
  obtain ⟨hstart, hlegal⟩ := step_seqLine (i := .start) (step_keeps_legal hs hwait) rfl rfl nofun rfl
  exact ⟨_, (run_succ hwait 1).trans (run_succ hstart 0), hlegal, rfl, rfl, rfl, rfl, rfl⟩

/-! ### The frames -/

/-- From `s`, the lines of `n` frames have run, and `t` is left with `rest` to come: in `GEN` for another frame, or at the
start of the telemetry when the frames are all counted. -/
structure FramesDone (n : Nat) (rest : List Line) (s t : State) : Prop where
  isLegal : legal t
  sched : t.sched = rest
  kept : t.kept = s.kept
  frame : t.frame.toNat = s.frame.toNat + n
  prng : t.prng = prns^[n * s.cfg.block] s.prng
  more : t.frame.toNat < t.cfg.numFrames → t.ph = phGen
  last : t.frame.toNat = t.cfg.numFrames → t.ph = phTxc ∧ t.txidx = 0

theorem FramesDone.cfg_eq {n : Nat} {rest : List Line} {s t : State} (h : FramesDone n rest s t) : t.cfg = s.cfg :=
  congrArg Kept.cfg h.kept

theorem FramesDone.trans {m n : Nat} {rest rest' : List Line} {s t u : State} (h : FramesDone m rest' s t)
    (h' : FramesDone n rest t u) : FramesDone (m + n) rest s u where
  isLegal := h'.isLegal
  sched := h'.sched
  kept := h'.kept.trans h.kept
  frame := by rw [h'.frame, h.frame, Nat.add_assoc]
  prng := by rw [h'.prng, h.prng, h.cfg_eq, ← Function.iterate_add_apply, ← Nat.add_mul, Nat.add_comm n]
  more := h'.more
  last := h'.last

/-- From `s`, the line of the block operation of phase `p` has run, and `t` is left with `rest` to come. The phases of a frame
have consecutive codes (R98), and only `GEN` steps the generator (R160). -/
structure BlockDone (p : BitVec 4) (rest : List Line) (s t : State) : Prop where
  isLegal : legal t
  ph : t.ph = p + 1
  sched : t.sched = rest
  kept : t.kept = s.kept
  frame : t.frame = s.frame
  prng : t.prng = if p = phGen then prns^[s.cfg.block] s.prng else s.prng

theorem step_block {s : State} {p : BitVec 4} {rest : List Line} (hs : legal s) (hph : s.ph = p)
    (hp : p ∈ [phGen, phPlant, phAdapt, phMse, phDist]) (hsched : s.sched = .seq p :: rest) :
    ∃ t : State, step s = .next t ∧ BlockDone p rest s t := by
  have hdone {i : Instr} (hi : encode i = .s p) (hne : p ≠ phWait) := step_seqLine hs hi hph (absurd · hne) hsched
  simp only [List.mem_cons, List.not_mem_nil, or_false] at hp
  rcases hp with rfl | rfl | rfl | rfl | rfl
  · obtain ⟨hstep, hlegal⟩ := hdone (i := .gen) rfl (by decide)
    exact ⟨_, hstep, hlegal, rfl, rfl, rfl, rfl, genRun_prng _ _ _⟩
  · obtain ⟨hstep, hlegal⟩ := hdone (i := .plant) rfl (by decide)
    exact ⟨_, hstep, hlegal, rfl, rfl, rfl, rfl, rfl⟩
  · obtain ⟨hstep, hlegal⟩ := hdone (i := .adapt) rfl (by decide)
    exact ⟨_, hstep, hlegal, rfl, rfl, rfl, rfl, rfl⟩
  · obtain ⟨hstep, hlegal⟩ := hdone (i := .mse) rfl (by decide)
    exact ⟨_, hstep, hlegal, rfl, rfl, rfl, rfl, rfl⟩
  · obtain ⟨hstep, hlegal⟩ := hdone (i := .dist) rfl (by decide)
    exact ⟨_, hstep, hlegal, rfl, rfl, rfl, rfl, rfl⟩

/-- The operations of a frame that come before `NEXTF`. -/
theorem run_genToDist {s : State} {rest : List Line} (hs : legal s) (hph : s.ph = phGen) (hsched : s.sched = frameOps ++ rest) :
    ∃ t : State, Host.Core.run core 5 s = .next t ∧ legal t ∧ t.ph = phNextf ∧ t.sched = .seq phNextf :: rest ∧
      t.kept = s.kept ∧ t.frame = s.frame ∧ t.prng = prns^[s.cfg.block] s.prng := by
  obtain ⟨g, hg, gen⟩ := step_block hs hph (by decide) hsched
  obtain ⟨p, hp, plant⟩ := step_block (p := phPlant) gen.isLegal gen.ph (by decide) gen.sched
  obtain ⟨a, ha, adapt⟩ := step_block (p := phAdapt) plant.isLegal plant.ph (by decide) plant.sched
  obtain ⟨m, hm, mse⟩ := step_block (p := phMse) adapt.isLegal adapt.ph (by decide) adapt.sched
  obtain ⟨d, hd, dist⟩ := step_block (p := phDist) mse.isLegal mse.ph (by decide) mse.sched
  refine ⟨d, ?_, dist.isLegal, dist.ph, dist.sched, ?_, ?_, ?_⟩
  · calc Host.Core.run core 5 s
      _ = Host.Core.run core 4 g := run_succ hg 4
      _ = Host.Core.run core 3 p := run_succ hp 3
      _ = Host.Core.run core 2 a := run_succ ha 2
      _ = Host.Core.run core 1 m := run_succ hm 1
      _ = .next d := run_succ hd 0
  · rw [dist.kept, mse.kept, adapt.kept, plant.kept, gen.kept]
  · rw [dist.frame, mse.frame, adapt.frame, plant.frame, gen.frame]
  · calc d.prng
      _ = m.prng := dist.prng
      _ = a.prng := mse.prng
      _ = p.prng := adapt.prng
      _ = g.prng := plant.prng
      _ = prns^[s.cfg.block] s.prng := gen.prng

/-- One frame: the block operations, then `NEXTF`. -/
theorem run_frameOps {s : State} {rest : List Line} (hs : legal s) (hph : s.ph = phGen) (hsched : s.sched = frameOps ++ rest) :
    ∃ t : State, Host.Core.run core 6 s = .next t ∧ FramesDone 1 rest s t := by
  obtain ⟨u, hrun, lu, hu, hsched', hkept, hframe, hprng⟩ := run_genToDist hs hph hsched
  obtain ⟨hstep, lt⟩ := step_seqLine (i := .nextf) lu rfl hu nofun hsched'
  obtain ⟨hcount, hphase, hidx⟩ := countFrame_counters (s := u.atSeqLine rest) lu hu
  obtain ⟨hkept', hprng', hrest⟩ := (u.atSeqLine rest).countFrame_keeps
  have hcfg : (u.atSeqLine rest).countFrame.cfg = u.cfg := State.countFrame_cfg _
  refine ⟨(u.atSeqLine rest).countFrame, (run_add hrun 1).trans (run_succ hstep 0), lt, hrest, hkept'.trans hkept, ?_, ?_,
    fun hmore => ?_, fun hlast => ?_⟩
  · rw [hcount, ← hframe]; rfl
  · rw [Nat.one_mul]; exact hprng'.trans hprng
  · rw [hcount, hcfg] at hmore
    exact hphase.trans (if_pos hmore)
  · rw [hcount, hcfg] at hlast
    exact ⟨hphase.trans (if_neg hlast.not_lt), hidx.trans (if_neg hlast.not_lt)⟩

/-- The frames of a run that are left, from any of them on. -/
theorem run_frames {m : Nat} {s : State} {rest : List Line} (hs : legal s) (hph : s.ph = phGen)
    (hleft : s.frame.toNat + (m + 1) = s.cfg.numFrames) (hsched : s.sched = rep (m + 1) frameOps ++ rest) :
    ∃ t : State, Host.Core.run core (6 * (m + 1)) s = .next t ∧ FramesDone (m + 1) rest s t := by
  induction m generalizing s with
  | zero => exact run_frameOps hs hph hsched
  | succ m ih =>
    obtain ⟨t, hrun, h⟩ := run_frameOps (rest := rep (m + 1) frameOps ++ rest) hs hph hsched
    have hleft' : t.frame.toNat + (m + 1) = t.cfg.numFrames := by rw [h.frame, h.cfg_eq]; omega
    obtain ⟨u, hrun', h'⟩ := ih h.isLegal (h.more (by omega)) hleft' h.sched
    refine ⟨u, ?_, Nat.add_comm 1 (m + 1) ▸ h.trans h'⟩
    rw [Nat.mul_succ, Nat.add_comm, run_add hrun, hrun']

/-- The part of a run before the telemetry. -/
theorem run_toTelemetry {s : State} {rest : List Line} (hs : legal s) (hph : s.ph = phWait) (hr : s.restart = true)
    (hsched : s.sched = .seq phWait :: .seq phStart :: (rep s.cfg.numFrames frameOps ++ rest)) :
    ∃ t : State, Host.Core.run core (2 + 6 * s.cfg.numFrames) s = .next t ∧ legal t ∧ t.ph = phTxc ∧ t.txidx = 0 ∧
      t.sched = rest ∧ t.frame.toNat = s.cfg.numFrames ∧ t.prng = prns^[s.cfg.numFrames * s.cfg.block] s.prng ∧
      t.kept = { s.kept with muRun := s.mu, powerRun := s.power, restart := false } := by
  obtain ⟨u, hrun, lu, hu, hsched', hframe, hprng, hkept⟩ := run_waitStart hs hph hr hsched
  have hcfg : u.cfg = s.cfg := congrArg Kept.cfg hkept
  obtain ⟨-, -, hpos, -⟩ := configLegal_sizes hs.1
  obtain ⟨m, hm⟩ := Nat.exists_eq_add_one.2 hpos
  obtain ⟨t, hrun', h⟩ := run_frames (m := m) lu hu (by rw [hframe, hcfg, hm, Nat.zero_add]) (by rw [hsched', hm])
  rw [← hm] at hrun' h
  have hcount : t.frame.toNat = s.cfg.numFrames := by rw [h.frame, hframe, Nat.zero_add]
  obtain ⟨htxc, hidx⟩ := h.last (by rw [hcount, h.cfg_eq, hcfg])
  exact ⟨t, (run_add hrun _).trans hrun', h.isLegal, htxc, hidx, h.sched, hcount, by rw [h.prng, hprng, hcfg],
    h.kept.trans hkept⟩

/-! ### The telemetry -/

/-- Both frames, from the start of `TXC` to `WAIT`: what is sent is what the state they end in would still send. -/
theorem run_telemetry {s : State} {rest : List Line} (hs : legal s) (hph : s.ph = phTxc) (hidx : s.txidx = 0)
    (hsched : s.sched = txCoef s.cfg ++ (txErr s.cfg ++ rest)) :
    ∃ t : State, Host.Core.run core ((txCoef s.cfg).length + (txErr s.cfg).length) s = .next t ∧
      t.ph = phWait ∧ t.sched = rest ∧ t.frame = s.frame ∧ t.prng = s.prng ∧
      t.coefFrame = s.coefFrame ∧ t.errFrame = s.errFrame ∧
      t.kept = { s.kept with
        txs := s.txs ++ markLast s.coefFrame ++ (if s.cfg.errTraceEn then markLast s.errFrame else []) } := by
  have hcoef := run_coefFrame hs hph hidx hsched
  rw [txCoef_length, run_add hcoef, txErr_length]
  by_cases hen : s.cfg.errTraceEn = true
  · have hphase : phaseAfter s.cfg phTxc = phTxe := if_pos hen
    have hlines : txErr s.cfg = rep s.cfg.errFrameLen [.seq phTxe] := if_pos hen
    rw [if_pos hen, if_pos hen]
    exact ⟨_, run_errFrame (run_keeps_legal hs hcoef) hphase rfl (congrArg (· ++ rest) hlines), rfl, rfl, rfl, rfl,
      rfl, rfl, rfl⟩
  · have hphase : phaseAfter s.cfg phTxc = phWait := if_neg hen
    have hlines : txErr s.cfg = [] := if_neg hen
    rw [if_neg hen, if_neg hen, List.append_nil]
    exact ⟨_, rfl, hphase, congrArg (· ++ rest) hlines, rfl, rfl, rfl, rfl, rfl⟩

/-- Settles O60: the run is `WAIT` and `START`, the frames, and the telemetry, one after the other. -/
theorem runSendsBothFrames : Obligations.RunSendsBothFrames := by
  unfold Obligations.RunSendsBothFrames
  rintro s rest ⟨hs, -⟩ hph hr hsched
  have hsched' : s.sched = .seq phWait :: .seq phStart ::
      (rep s.cfg.numFrames frameOps ++ (txCoef s.cfg ++ (txErr s.cfg ++ rest))) := by
    rw [hsched, runOps]
    simp
  refine ⟨?_, ?_⟩
  · rw [runOps_length, txCoef_length, txErr_length, Config.coefFrameLen, Config.errFrameLen]
    omega
  obtain ⟨u, hrun, lu, hu, hidx, hschedu, hframeu, hprngu, hkeptu⟩ := run_toTelemetry hs hph hr hsched'
  have hcfg : u.cfg = s.cfg := congrArg Kept.cfg hkeptu
  have htxs : u.txs = s.txs := congrArg Kept.txs hkeptu
  obtain ⟨t, hrun', ht, hschedt, hframe, hprng, hcoef, herr, hkept⟩ := run_telemetry lu hu hidx (by rw [hschedu, hcfg])
  rw [hkeptu, hcfg, htxs, ← hcoef, ← herr] at hkept
  refine ⟨t, ?_, ht, congrArg Kept.restart hkept, ?_, hschedt, congrArg Kept.mu hkept, congrArg Kept.power hkept,
    congrArg Kept.muRun hkept, congrArg Kept.powerRun hkept, hprng.trans hprngu, congrArg Kept.txs hkept⟩
  · rw [runOps_length, ← Nat.add_assoc, run_add hrun, ← hcfg]
    exact hrun'
  · rw [hframe, hframeu]

end Sys2Proof.Machine
end

section
/-! PROOFS. 60_exceptions.md: the engine raises no exception (R240), so from a state with the invariant every agent step that the
spec lets happen completes; and what is refused otherwise, each configuration or state under its own name (R241, R242). -/

namespace Sys2Proof.Machine

/-! ### Every step completes -/

theorem exec_event_completes {s : State} (hs : legal s) (ev : BitVec 2) : ∃ t, exec (decodeEvent ev) s = .next t :=
  ⟨_, exec_of_legal hs (enabled_event ev s)⟩

/-- A legal phase names an operation, whose precondition it is (R216, R252). -/
theorem seqStep_completes {s : State} (hs : legal s) (ready : Bool) : ∃ t, seqStep ready s = .next t ∧ legal t := by
  obtain ⟨-, -, hphase, -⟩ := id hs
  obtain ⟨i, hi⟩ := exists_encode_of_phaseLegal hphase
  exact ⟨_, seqStep_of_legal hs hi ready, legal_effect hs (enabled_of_encode hi)⟩

theorem runPrimLine_completes {s : State} (hs : legal s) {fn : BitVec 4} (hfn : fn.toNat ≤ 8) (a b : Sample) :
    ∃ t, runPrimLine fn a b s = .next t := by
  obtain ⟨i, hi⟩ := (wf_iff_decodes (.p fn)).1 (decide_eq_true hfn)
  have hen : Enabled i (s.withOperands a b) := by
    rintro p hp
    cases hp.symm.trans (encode_of_decode hi)
  exact ⟨_, (runPrimLine_of_decode hi a b s).trans (exec_of_legal hs hen)⟩

/-- The event of a clocked step finds a legal state, whether the sequencer has taken its step before it or not (R76, R77). -/
theorem runClock_completes {s : State} (hs : legal s) (inp : StepInput) : ∃ t, runClock inp s = .next t := by
  obtain ⟨hcfg, -⟩ := id hs
  cases hrst : inp.rst with
  | true => exact ⟨_, (runClock_of_rst hrst s).trans (resetStep_of_legal hcfg)⟩
  | false =>
    by_cases ha : seqActs inp s = true
    · obtain ⟨u, hu, hlegal⟩ := seqStep_completes hs inp.txReady
      rw [runClock_of_acts hrst ha, hu, andThen_next]
      exact exec_event_completes hlegal _
    · rw [runClock_of_event hrst ha]
      exact exec_event_completes (s := s.withReady inp.txReady) hs _

/-- A line completes in every legal state, unless it is a `SEQ` line that is ill-formed there (R106) or has a reserved function
select (R104). -/
theorem runLine_completes {s : State} (hs : legal s) (l : Line)
    (hseq : ∀ p, l = .seq p → p = s.ph ∧ (s.ph = phWait → s.restart = true))
    (hprim : ∀ fn a b, l = .prim fn a b → fn.toNat ≤ 8) : ∃ t, runLine l s = .next t := by
  cases l with
  | rst =>
    obtain ⟨hcfg, -⟩ := hs
    exact ⟨_, resetStep_of_legal hcfg⟩
  | seq p =>
    obtain ⟨rfl, hwait⟩ := hseq p rfl
    obtain ⟨t, ht, -⟩ := seqStep_completes hs true
    exact ⟨t, (runSeqLine_of_named hwait).trans ht⟩
  | ev code => exact exec_event_completes hs code
  | prim fn a b => exact runPrimLine_completes hs (hprim fn a b rfl) a b
  | clock inp => exact runClock_completes hs inp

/-- Settles O50: taking the line off leaves the state legal and its phase as it was, so the line completes; the invariant is
kept by every step (O46). -/
theorem wellFormedStepsComplete : Obligations.WellFormedStepsComplete := by
  unfold Obligations.WellFormedStepsComplete
  intro s hinv hseq hprim
  obtain ⟨hs, -⟩ := id hinv
  obtain ⟨t, ht⟩ : ∃ t, step s = .next t := runLine_completes (s := s.popLine) hs (nextLine s) hseq hprim
  obtain ⟨hinv', -⟩ := stepKeepsInvariant s t hinv ht
  exact ⟨t, ht, hinv'⟩

/-! ### What is refused, and under which name -/

section
variable {c : Config}

theorem configProblem_of_postShift (h : c.postShift ≠ 0) : configProblem c = some .badPostShift := if_pos h

theorem configProblem_of_seed (hshift : c.postShift = 0) (h : c.prngSeed = 0) : configProblem c = some .badSeed := by
  rw [configProblem, if_neg (not_not.2 hshift), if_pos h]

theorem configProblem_of_lengths (hshift : c.postShift = 0) (hseed : c.prngSeed ≠ 0) (h : ¬ configLengths c) :
    configProblem c = some .invalidLength := by
  rw [configProblem, if_neg (not_not.2 hshift), if_neg hseed, if_pos h]

theorem configProblem_of_ranges (hshift : c.postShift = 0) (hseed : c.prngSeed ≠ 0) (hlen : configLengths c)
    (h : ¬ configRanges c) : configProblem c = some .badParameter := by
  rw [configProblem, if_neg (not_not.2 hshift), if_neg hseed, if_neg (not_not.2 hlen), if_pos h]

end

section
variable {s : State}

theorem guarded_of_configProblem {r : Refusal} (h : configProblem s.cfg = some r) (body : Result) :
    guarded s body = .refused r := by
  rw [guarded, h]

theorem guarded_of_configLegal (hc : configLegal s.cfg) (body : Result) :
    guarded s body =
      if ¬ storeLengths s then .refused .invalidLength
      else if ¬ phaseLegal s then .fault .reservedPhase
      else if ¬ stateBounds s then .refused .badState
      else body := by
  rw [guarded, (configProblem_eq_none_iff s.cfg).2 hc]

theorem guarded_of_not_storeLengths (hc : configLegal s.cfg) (h : ¬ storeLengths s) (body : Result) :
    guarded s body = .refused .invalidLength := by
  rw [guarded_of_configLegal hc, if_pos h]

theorem guarded_of_not_stateBounds (hc : configLegal s.cfg) (hl : storeLengths s) (hp : phaseLegal s)
    (h : ¬ stateBounds s) (body : Result) : guarded s body = .refused .badState := by
  rw [guarded_of_configLegal hc, if_neg (not_not.2 hl), if_neg (not_not.2 hp), if_pos h]

end

/-- Every operation goes through the guard, before an operation of the sequencer looks at the phase. -/
theorem exists_exec_eq_guarded (i : Instr) (s : State) : ∃ body, exec i s = guarded s body := by
  cases hi : encode i with
  | s p => exact ⟨_, exec_of_phase hi s⟩
  | p | e => exact ⟨_, exec_of_noPhase (by rw [hi]; nofun) s⟩

/-- Settles O52: each reason is the guard's, the checks before it being passed (log 12). -/
theorem illFormedConfigurationRefused : Obligations.IllFormedConfigurationRefused := by
  unfold Obligations.IllFormedConfigurationRefused
  intro i s
  obtain ⟨body, hbody⟩ := exists_exec_eq_guarded i s
  rw [hbody]
  refine ⟨fun h => ?_, fun hshift h => ?_, fun hshift hseed h => ?_, fun hshift hseed hlen h => ?_, fun hc h => ?_,
    fun hc hl hp h => ?_⟩
  · exact guarded_of_configProblem (configProblem_of_postShift h) body
  · exact guarded_of_configProblem (configProblem_of_seed hshift h) body
  · exact guarded_of_configProblem (configProblem_of_lengths hshift hseed h) body
  · exact guarded_of_configProblem (configProblem_of_ranges hshift hseed hlen h) body
  · exact guarded_of_not_storeLengths hc h body
  · exact guarded_of_not_stateBounds hc hl hp h body

end Sys2Proof.Machine
end
